-- ==== Sys2Proof/Word.lean ====
section
/-! DEFINITION. The two word types of the block (00_scope.md R5, R8): the 8-bit byte and the 16-bit word. -/

namespace Sys2Proof

/-- An 8-bit register, memory byte or port number (R5). -/
abbrev Byte := BitVec 8

/-- A 16-bit value: PC, SP, a register pair, an address (R5). Its addition wraps modulo 2^16 (R27). -/
abbrev Addr := BitVec 16

end Sys2Proof
end

