-- ==== Sys2Proof/Config.lean ====
section
/-! DEFINITION. What is fixed for the machine, and the one free value (00_scope.md R5, R6). -/

namespace Sys2Proof

/-- The number of memory bytes (R5, R50). -/
def Config.memorySize : Nat := 0x10000

/-! The defaults that R6 gives its parameters. The parameters themselves are fields of State (log entries 3, 4, 7). -/

/-- The default of UNIMPL_SET, the empty set (R6, R96, D2). -/
def Config.unimplSetDefault : List Byte := []

/-- The default of RESET_MEMORY_BYTE (R6, D1). -/
def Config.resetMemoryByteDefault : Byte := 0x00

/-- The default of DEFAULT_PORT_READ (R6, R60, D12). -/
def Config.defaultPortReadDefault : Byte := 0x00

/-- PortRead: the byte an injected port handler answers, a FREE VALUE (R6, R220, U2). The first argument is the
number of the executed IN, so that two executions may differ; the second is the port. It has no body, so nothing
can be proved of what it answers. Log entry 4. -/
opaque Config.freePortRead : Nat → Byte → Byte

end Sys2Proof
end

