-- ==== Sys2Proof/Syntax.lean ====
section
/-! DEFINITION. The syntax of the instruction set: the operand codes, the kinds of the decode table, and `Instr`, one
constructor for each of the 244 mnemonics of spec/opcode_table.json. -/

namespace Sys2Proof

/-- The seven registers (R21). -/
inductive Reg where
  | b | c | d | e | h | l | a
  deriving DecidableEq, Repr

/-- The operand of LXI, INX, DCX, DAD (R87, first row). -/
inductive Pair where
  | bc | de | hl | sp
  deriving DecidableEq, Repr

/-- The operand of PUSH and POP other than PSW (R87, second row). -/
inductive StackPair where
  | bc | de | hl
  deriving DecidableEq, Repr

/-- The address pair of LDAX and STAX (R87, third row). -/
inductive IndPair where
  | bc | de
  deriving DecidableEq, Repr

/-- The conditions (R88). -/
inductive Cond where
  | nz | z | nc | c | po | pe | p | m
  deriving DecidableEq, Repr

/-- The ALU operations (R85, field aaa). -/
inductive AluOp where
  | add | adc | sub | sbb | ana | xra | ora | cmp
  deriving DecidableEq, Repr

/-- The four rotates (R210 to R213). -/
inductive RotateOp where
  | rlc | rrc | ral | rar
  deriving DecidableEq, Repr

/-- The kind tags of the decode table (R94). -/
inductive Kind where
  | noOp
  | loadPairImmediate
  | storeAccIndirect
  | pairIncrement
  | incrementRegister
  | decrementRegister
  | moveImmediate
  | rotate
  | pairAdd
  | loadAccIndirect
  | pairDecrement
  | storeHLDirect
  | decimalAdjust
  | loadHLDirect
  | complementAcc
  | storeAccDirect
  | incrementMemory
  | decrementMemory
  | moveImmediateToMemory
  | setCarry
  | loadAccDirect
  | complementCarry
  | moveRegister
  | moveFromMemory
  | moveToMemory
  | halt
  | aluRegister (op : AluOp)
  | aluMemory (op : AluOp)
  | conditionalReturn
  | pop
  | conditionalJump
  | jump
  | conditionalCall
  | push
  | aluImmediate (op : AluOp)
  | restart
  | returns
  | call
  | output
  | input
  | exchangeStackTop
  | jumpHL
  | exchangeHLDE
  | popPSW
  | disableInterrupts
  | pushPSW
  | loadSPFromHL
  | enableInterrupts
  | unimplemented
  deriving DecidableEq, Repr

/-- The rows of spec/opcode_table.json in the order of the opcode byte (R93), one constructor for each mnemonic. The
twelve alias rows (R95) are values of the free opcode bits of the instruction they execute as: `nnn` is bits 5..3 of
NOP (R85), `x` bit 3 of JMP, `x` bit 4 of RET, `xx` bits 5..4 of CALL; 0 is the documented opcode (log entry 10). -/
inductive Instr where
  | nop (nnn : BitVec 3)   -- 0x00 NOP, R110
  | lxiB (d16 : Addr)      -- 0x01 LXI B,d16, R113
  | staxB                  -- 0x02 STAX B, R122
  | inxB                   -- 0x03 INX B, R130
  | inrB                   -- 0x04 INR B, R168
  | dcrB                   -- 0x05 DCR B, R170
  | mviB (d8 : Byte)       -- 0x06 MVI B,d8, R111
  | rlc                    -- 0x07 RLC, R210
  | dadB                   -- 0x09 DAD B, R132
  | ldaxB                  -- 0x0A LDAX B, R121
  | dcxB                   -- 0x0B DCX B, R131
  | inrC                   -- 0x0C INR C, R168
  | dcrC                   -- 0x0D DCR C, R170
  | mviC (d8 : Byte)       -- 0x0E MVI C,d8, R111
  | rrc                    -- 0x0F RRC, R211
  | lxiD (d16 : Addr)      -- 0x11 LXI D,d16, R113
  | staxD                  -- 0x12 STAX D, R122
  | inxD                   -- 0x13 INX D, R130
  | inrD                   -- 0x14 INR D, R168
  | dcrD                   -- 0x15 DCR D, R170
  | mviD (d8 : Byte)       -- 0x16 MVI D,d8, R111
  | ral                    -- 0x17 RAL, R212
  | dadD                   -- 0x19 DAD D, R132
  | ldaxD                  -- 0x1A LDAX D, R121
  | dcxD                   -- 0x1B DCX D, R131
  | inrE                   -- 0x1C INR E, R168
  | dcrE                   -- 0x1D DCR E, R170
  | mviE (d8 : Byte)       -- 0x1E MVI E,d8, R111
  | rar                    -- 0x1F RAR, R213
  | lxiH (d16 : Addr)      -- 0x21 LXI H,d16, R113
  | shld (a16 : Addr)      -- 0x22 SHLD a16, R120
  | inxH                   -- 0x23 INX H, R130
  | inrH                   -- 0x24 INR H, R168
  | dcrH                   -- 0x25 DCR H, R170
  | mviH (d8 : Byte)       -- 0x26 MVI H,d8, R111
  | daa                    -- 0x27 DAA, R174
  | dadH                   -- 0x29 DAD H, R132
  | lhld (a16 : Addr)      -- 0x2A LHLD a16, R119
  | dcxH                   -- 0x2B DCX H, R131
  | inrL                   -- 0x2C INR L, R168
  | dcrL                   -- 0x2D DCR L, R170
  | mviL (d8 : Byte)       -- 0x2E MVI L,d8, R111
  | cma                    -- 0x2F CMA, R175
  | lxiSP (d16 : Addr)     -- 0x31 LXI SP,d16, R113
  | sta (a16 : Addr)       -- 0x32 STA a16, R118
  | inxSP                  -- 0x33 INX SP, R130
  | inrM                   -- 0x34 INR M, R169
  | dcrM                   -- 0x35 DCR M, R171
  | mviM (d8 : Byte)       -- 0x36 MVI M,d8, R112
  | stc                    -- 0x37 STC, R176
  | dadSP                  -- 0x39 DAD SP, R132
  | lda (a16 : Addr)       -- 0x3A LDA a16, R117
  | dcxSP                  -- 0x3B DCX SP, R131
  | inrA                   -- 0x3C INR A, R168
  | dcrA                   -- 0x3D DCR A, R170
  | mviA (d8 : Byte)       -- 0x3E MVI A,d8, R111
  | cmc                    -- 0x3F CMC, R177
  | movBB                  -- 0x40 MOV B,B, R114
  | movBC                  -- 0x41 MOV B,C, R114
  | movBD                  -- 0x42 MOV B,D, R114
  | movBE                  -- 0x43 MOV B,E, R114
  | movBH                  -- 0x44 MOV B,H, R114
  | movBL                  -- 0x45 MOV B,L, R114
  | movBM                  -- 0x46 MOV B,M, R115
  | movBA                  -- 0x47 MOV B,A, R114
  | movCB                  -- 0x48 MOV C,B, R114
  | movCC                  -- 0x49 MOV C,C, R114
  | movCD                  -- 0x4A MOV C,D, R114
  | movCE                  -- 0x4B MOV C,E, R114
  | movCH                  -- 0x4C MOV C,H, R114
  | movCL                  -- 0x4D MOV C,L, R114
  | movCM                  -- 0x4E MOV C,M, R115
  | movCA                  -- 0x4F MOV C,A, R114
  | movDB                  -- 0x50 MOV D,B, R114
  | movDC                  -- 0x51 MOV D,C, R114
  | movDD                  -- 0x52 MOV D,D, R114
  | movDE                  -- 0x53 MOV D,E, R114
  | movDH                  -- 0x54 MOV D,H, R114
  | movDL                  -- 0x55 MOV D,L, R114
  | movDM                  -- 0x56 MOV D,M, R115
  | movDA                  -- 0x57 MOV D,A, R114
  | movEB                  -- 0x58 MOV E,B, R114
  | movEC                  -- 0x59 MOV E,C, R114
  | movED                  -- 0x5A MOV E,D, R114
  | movEE                  -- 0x5B MOV E,E, R114
  | movEH                  -- 0x5C MOV E,H, R114
  | movEL                  -- 0x5D MOV E,L, R114
  | movEM                  -- 0x5E MOV E,M, R115
  | movEA                  -- 0x5F MOV E,A, R114
  | movHB                  -- 0x60 MOV H,B, R114
  | movHC                  -- 0x61 MOV H,C, R114
  | movHD                  -- 0x62 MOV H,D, R114
  | movHE                  -- 0x63 MOV H,E, R114
  | movHH                  -- 0x64 MOV H,H, R114
  | movHL                  -- 0x65 MOV H,L, R114
  | movHM                  -- 0x66 MOV H,M, R115
  | movHA                  -- 0x67 MOV H,A, R114
  | movLB                  -- 0x68 MOV L,B, R114
  | movLC                  -- 0x69 MOV L,C, R114
  | movLD                  -- 0x6A MOV L,D, R114
  | movLE                  -- 0x6B MOV L,E, R114
  | movLH                  -- 0x6C MOV L,H, R114
  | movLL                  -- 0x6D MOV L,L, R114
  | movLM                  -- 0x6E MOV L,M, R115
  | movLA                  -- 0x6F MOV L,A, R114
  | movMB                  -- 0x70 MOV M,B, R116
  | movMC                  -- 0x71 MOV M,C, R116
  | movMD                  -- 0x72 MOV M,D, R116
  | movME                  -- 0x73 MOV M,E, R116
  | movMH                  -- 0x74 MOV M,H, R116
  | movML                  -- 0x75 MOV M,L, R116
  | hlt                    -- 0x76 HLT, R225
  | movMA                  -- 0x77 MOV M,A, R116
  | movAB                  -- 0x78 MOV A,B, R114
  | movAC                  -- 0x79 MOV A,C, R114
  | movAD                  -- 0x7A MOV A,D, R114
  | movAE                  -- 0x7B MOV A,E, R114
  | movAH                  -- 0x7C MOV A,H, R114
  | movAL                  -- 0x7D MOV A,L, R114
  | movAM                  -- 0x7E MOV A,M, R115
  | movAA                  -- 0x7F MOV A,A, R114
  | addB                   -- 0x80 ADD B, R144
  | addC                   -- 0x81 ADD C, R144
  | addD                   -- 0x82 ADD D, R144
  | addE                   -- 0x83 ADD E, R144
  | addH                   -- 0x84 ADD H, R144
  | addL                   -- 0x85 ADD L, R144
  | addM                   -- 0x86 ADD M, R145
  | addA                   -- 0x87 ADD A, R144
  | adcB                   -- 0x88 ADC B, R147
  | adcC                   -- 0x89 ADC C, R147
  | adcD                   -- 0x8A ADC D, R147
  | adcE                   -- 0x8B ADC E, R147
  | adcH                   -- 0x8C ADC H, R147
  | adcL                   -- 0x8D ADC L, R147
  | adcM                   -- 0x8E ADC M, R148
  | adcA                   -- 0x8F ADC A, R147
  | subB                   -- 0x90 SUB B, R150
  | subC                   -- 0x91 SUB C, R150
  | subD                   -- 0x92 SUB D, R150
  | subE                   -- 0x93 SUB E, R150
  | subH                   -- 0x94 SUB H, R150
  | subL                   -- 0x95 SUB L, R150
  | subM                   -- 0x96 SUB M, R151
  | subA                   -- 0x97 SUB A, R150
  | sbbB                   -- 0x98 SBB B, R153
  | sbbC                   -- 0x99 SBB C, R153
  | sbbD                   -- 0x9A SBB D, R153
  | sbbE                   -- 0x9B SBB E, R153
  | sbbH                   -- 0x9C SBB H, R153
  | sbbL                   -- 0x9D SBB L, R153
  | sbbM                   -- 0x9E SBB M, R154
  | sbbA                   -- 0x9F SBB A, R153
  | anaB                   -- 0xA0 ANA B, R156
  | anaC                   -- 0xA1 ANA C, R156
  | anaD                   -- 0xA2 ANA D, R156
  | anaE                   -- 0xA3 ANA E, R156
  | anaH                   -- 0xA4 ANA H, R156
  | anaL                   -- 0xA5 ANA L, R156
  | anaM                   -- 0xA6 ANA M, R157
  | anaA                   -- 0xA7 ANA A, R156
  | xraB                   -- 0xA8 XRA B, R159
  | xraC                   -- 0xA9 XRA C, R159
  | xraD                   -- 0xAA XRA D, R159
  | xraE                   -- 0xAB XRA E, R159
  | xraH                   -- 0xAC XRA H, R159
  | xraL                   -- 0xAD XRA L, R159
  | xraM                   -- 0xAE XRA M, R160
  | xraA                   -- 0xAF XRA A, R159
  | oraB                   -- 0xB0 ORA B, R162
  | oraC                   -- 0xB1 ORA C, R162
  | oraD                   -- 0xB2 ORA D, R162
  | oraE                   -- 0xB3 ORA E, R162
  | oraH                   -- 0xB4 ORA H, R162
  | oraL                   -- 0xB5 ORA L, R162
  | oraM                   -- 0xB6 ORA M, R163
  | oraA                   -- 0xB7 ORA A, R162
  | cmpB                   -- 0xB8 CMP B, R165
  | cmpC                   -- 0xB9 CMP C, R165
  | cmpD                   -- 0xBA CMP D, R165
  | cmpE                   -- 0xBB CMP E, R165
  | cmpH                   -- 0xBC CMP H, R165
  | cmpL                   -- 0xBD CMP L, R165
  | cmpM                   -- 0xBE CMP M, R166
  | cmpA                   -- 0xBF CMP A, R165
  | rnz                    -- 0xC0 RNZ, R196
  | popB                   -- 0xC1 POP B, R183
  | jnz (a16 : Addr)       -- 0xC2 JNZ a16, R192
  | jmp (x : BitVec 1) (a16 : Addr) -- 0xC3 JMP a16, R191
  | cnz (a16 : Addr)       -- 0xC4 CNZ a16, R194
  | pushB                  -- 0xC5 PUSH B, R182
  | adi (d8 : Byte)        -- 0xC6 ADI d8, R146
  | rst0                   -- 0xC7 RST 0, R224
  | rz                     -- 0xC8 RZ, R196
  | ret (x : BitVec 1)     -- 0xC9 RET, R195
  | jz (a16 : Addr)        -- 0xCA JZ a16, R192
  | cz (a16 : Addr)        -- 0xCC CZ a16, R194
  | call (xx : BitVec 2) (a16 : Addr) -- 0xCD CALL a16, R193
  | aci (d8 : Byte)        -- 0xCE ACI d8, R149
  | rst1                   -- 0xCF RST 1, R224
  | rnc                    -- 0xD0 RNC, R196
  | popD                   -- 0xD1 POP D, R183
  | jnc (a16 : Addr)       -- 0xD2 JNC a16, R192
  | outPort (d8 : Byte)    -- 0xD3 OUT d8, R221
  | cnc (a16 : Addr)       -- 0xD4 CNC a16, R194
  | pushD                  -- 0xD5 PUSH D, R182
  | sui (d8 : Byte)        -- 0xD6 SUI d8, R152
  | rst2                   -- 0xD7 RST 2, R224
  | rc                     -- 0xD8 RC, R196
  | jc (a16 : Addr)        -- 0xDA JC a16, R192
  | inPort (d8 : Byte)     -- 0xDB IN d8, R220
  | cc (a16 : Addr)        -- 0xDC CC a16, R194
  | sbi (d8 : Byte)        -- 0xDE SBI d8, R155
  | rst3                   -- 0xDF RST 3, R224
  | rpo                    -- 0xE0 RPO, R196
  | popH                   -- 0xE1 POP H, R183
  | jpo (a16 : Addr)       -- 0xE2 JPO a16, R192
  | xthl                   -- 0xE3 XTHL, R215
  | cpo (a16 : Addr)       -- 0xE4 CPO a16, R194
  | pushH                  -- 0xE5 PUSH H, R182
  | ani (d8 : Byte)        -- 0xE6 ANI d8, R158
  | rst4                   -- 0xE7 RST 4, R224
  | rpe                    -- 0xE8 RPE, R196
  | pchl                   -- 0xE9 PCHL, R197
  | jpe (a16 : Addr)       -- 0xEA JPE a16, R192
  | xchg                   -- 0xEB XCHG, R214
  | cpe (a16 : Addr)       -- 0xEC CPE a16, R194
  | xri (d8 : Byte)        -- 0xEE XRI d8, R161
  | rst5                   -- 0xEF RST 5, R224
  | rp                     -- 0xF0 RP, R196
  | popPSW                 -- 0xF1 POP PSW, R185
  | jp (a16 : Addr)        -- 0xF2 JP a16, R192
  | di                     -- 0xF3 DI, R223
  | cp (a16 : Addr)        -- 0xF4 CP a16, R194
  | pushPSW                -- 0xF5 PUSH PSW, R184
  | ori (d8 : Byte)        -- 0xF6 ORI d8, R164
  | rst6                   -- 0xF7 RST 6, R224
  | rm                     -- 0xF8 RM, R196
  | sphl                   -- 0xF9 SPHL, R186
  | jm (a16 : Addr)        -- 0xFA JM a16, R192
  | ei                     -- 0xFB EI, R222
  | cm (a16 : Addr)        -- 0xFC CM a16, R194
  | cpi (d8 : Byte)        -- 0xFE CPI d8, R167
  | rst7                   -- 0xFF RST 7, R224
  deriving DecidableEq, Repr

/-! Families of rows indexed by their operand codes. -/

/-- `MOV r1,r2` (R114): destination, source. -/
def Instr.movRegReg : Reg → Reg → Instr
  | .b, .b => .movBB
  | .b, .c => .movBC
  | .b, .d => .movBD
  | .b, .e => .movBE
  | .b, .h => .movBH
  | .b, .l => .movBL
  | .b, .a => .movBA
  | .c, .b => .movCB
  | .c, .c => .movCC
  | .c, .d => .movCD
  | .c, .e => .movCE
  | .c, .h => .movCH
  | .c, .l => .movCL
  | .c, .a => .movCA
  | .d, .b => .movDB
  | .d, .c => .movDC
  | .d, .d => .movDD
  | .d, .e => .movDE
  | .d, .h => .movDH
  | .d, .l => .movDL
  | .d, .a => .movDA
  | .e, .b => .movEB
  | .e, .c => .movEC
  | .e, .d => .movED
  | .e, .e => .movEE
  | .e, .h => .movEH
  | .e, .l => .movEL
  | .e, .a => .movEA
  | .h, .b => .movHB
  | .h, .c => .movHC
  | .h, .d => .movHD
  | .h, .e => .movHE
  | .h, .h => .movHH
  | .h, .l => .movHL
  | .h, .a => .movHA
  | .l, .b => .movLB
  | .l, .c => .movLC
  | .l, .d => .movLD
  | .l, .e => .movLE
  | .l, .h => .movLH
  | .l, .l => .movLL
  | .l, .a => .movLA
  | .a, .b => .movAB
  | .a, .c => .movAC
  | .a, .d => .movAD
  | .a, .e => .movAE
  | .a, .h => .movAH
  | .a, .l => .movAL
  | .a, .a => .movAA

/-- `MOV r,M` (R115). -/
def Instr.movRegMem : Reg → Instr
  | .b => .movBM
  | .c => .movCM
  | .d => .movDM
  | .e => .movEM
  | .h => .movHM
  | .l => .movLM
  | .a => .movAM

/-- `MOV M,r` (R116). -/
def Instr.movMemReg : Reg → Instr
  | .b => .movMB
  | .c => .movMC
  | .d => .movMD
  | .e => .movME
  | .h => .movMH
  | .l => .movML
  | .a => .movMA

/-- `MVI r,d8` (R111). -/
def Instr.mviReg : Reg → Byte → Instr
  | .b, d8 => .mviB d8
  | .c, d8 => .mviC d8
  | .d, d8 => .mviD d8
  | .e, d8 => .mviE d8
  | .h, d8 => .mviH d8
  | .l, d8 => .mviL d8
  | .a, d8 => .mviA d8

/-- `INR r` (R168). -/
def Instr.inrReg : Reg → Instr
  | .b => .inrB
  | .c => .inrC
  | .d => .inrD
  | .e => .inrE
  | .h => .inrH
  | .l => .inrL
  | .a => .inrA

/-- `DCR r` (R170). -/
def Instr.dcrReg : Reg → Instr
  | .b => .dcrB
  | .c => .dcrC
  | .d => .dcrD
  | .e => .dcrE
  | .h => .dcrH
  | .l => .dcrL
  | .a => .dcrA

/-- `LXI rp,d16` (R113). -/
def Instr.lxiPair : Pair → Addr → Instr
  | .bc, d16 => .lxiB d16
  | .de, d16 => .lxiD d16
  | .hl, d16 => .lxiH d16
  | .sp, d16 => .lxiSP d16

/-- `INX rp` (R130). -/
def Instr.inxPair : Pair → Instr
  | .bc => .inxB
  | .de => .inxD
  | .hl => .inxH
  | .sp => .inxSP

/-- `DCX rp` (R131). -/
def Instr.dcxPair : Pair → Instr
  | .bc => .dcxB
  | .de => .dcxD
  | .hl => .dcxH
  | .sp => .dcxSP

/-- `DAD rp` (R132). -/
def Instr.dadPair : Pair → Instr
  | .bc => .dadB
  | .de => .dadD
  | .hl => .dadH
  | .sp => .dadSP

/-- `LDAX rp` (R121). -/
def Instr.ldaxPair : IndPair → Instr
  | .bc => .ldaxB
  | .de => .ldaxD

/-- `STAX rp` (R122). -/
def Instr.staxPair : IndPair → Instr
  | .bc => .staxB
  | .de => .staxD

/-- `PUSH rp` (R182). -/
def Instr.pushPair : StackPair → Instr
  | .bc => .pushB
  | .de => .pushD
  | .hl => .pushH

/-- `POP rp` (R183). -/
def Instr.popPair : StackPair → Instr
  | .bc => .popB
  | .de => .popD
  | .hl => .popH

/-- The ALU instructions with a register operand (R143). -/
def Instr.aluReg : AluOp → Reg → Instr
  | .add, .b => .addB
  | .add, .c => .addC
  | .add, .d => .addD
  | .add, .e => .addE
  | .add, .h => .addH
  | .add, .l => .addL
  | .add, .a => .addA
  | .adc, .b => .adcB
  | .adc, .c => .adcC
  | .adc, .d => .adcD
  | .adc, .e => .adcE
  | .adc, .h => .adcH
  | .adc, .l => .adcL
  | .adc, .a => .adcA
  | .sub, .b => .subB
  | .sub, .c => .subC
  | .sub, .d => .subD
  | .sub, .e => .subE
  | .sub, .h => .subH
  | .sub, .l => .subL
  | .sub, .a => .subA
  | .sbb, .b => .sbbB
  | .sbb, .c => .sbbC
  | .sbb, .d => .sbbD
  | .sbb, .e => .sbbE
  | .sbb, .h => .sbbH
  | .sbb, .l => .sbbL
  | .sbb, .a => .sbbA
  | .ana, .b => .anaB
  | .ana, .c => .anaC
  | .ana, .d => .anaD
  | .ana, .e => .anaE
  | .ana, .h => .anaH
  | .ana, .l => .anaL
  | .ana, .a => .anaA
  | .xra, .b => .xraB
  | .xra, .c => .xraC
  | .xra, .d => .xraD
  | .xra, .e => .xraE
  | .xra, .h => .xraH
  | .xra, .l => .xraL
  | .xra, .a => .xraA
  | .ora, .b => .oraB
  | .ora, .c => .oraC
  | .ora, .d => .oraD
  | .ora, .e => .oraE
  | .ora, .h => .oraH
  | .ora, .l => .oraL
  | .ora, .a => .oraA
  | .cmp, .b => .cmpB
  | .cmp, .c => .cmpC
  | .cmp, .d => .cmpD
  | .cmp, .e => .cmpE
  | .cmp, .h => .cmpH
  | .cmp, .l => .cmpL
  | .cmp, .a => .cmpA

/-- The ALU instructions with operand M (R143). -/
def Instr.aluMem : AluOp → Instr
  | .add => .addM
  | .adc => .adcM
  | .sub => .subM
  | .sbb => .sbbM
  | .ana => .anaM
  | .xra => .xraM
  | .ora => .oraM
  | .cmp => .cmpM

/-- The ALU instructions with an immediate operand (R143). -/
def Instr.aluImm : AluOp → Byte → Instr
  | .add, d8 => .adi d8
  | .adc, d8 => .aci d8
  | .sub, d8 => .sui d8
  | .sbb, d8 => .sbi d8
  | .ana, d8 => .ani d8
  | .xra, d8 => .xri d8
  | .ora, d8 => .ori d8
  | .cmp, d8 => .cpi d8

/-- `Jcc a16` (R192). -/
def Instr.jumpCond : Cond → Addr → Instr
  | .nz, a16 => .jnz a16
  | .z, a16 => .jz a16
  | .nc, a16 => .jnc a16
  | .c, a16 => .jc a16
  | .po, a16 => .jpo a16
  | .pe, a16 => .jpe a16
  | .p, a16 => .jp a16
  | .m, a16 => .jm a16

/-- `Ccc a16` (R194). -/
def Instr.callCond : Cond → Addr → Instr
  | .nz, a16 => .cnz a16
  | .z, a16 => .cz a16
  | .nc, a16 => .cnc a16
  | .c, a16 => .cc a16
  | .po, a16 => .cpo a16
  | .pe, a16 => .cpe a16
  | .p, a16 => .cp a16
  | .m, a16 => .cm a16

/-- `Rcc` (R196). -/
def Instr.retCond : Cond → Instr
  | .nz => .rnz
  | .z => .rz
  | .nc => .rnc
  | .c => .rc
  | .po => .rpo
  | .pe => .rpe
  | .p => .rp
  | .m => .rm

/-- The rotates (R210 to R213). -/
def Instr.rotate : RotateOp → Instr
  | .rlc => .rlc
  | .rrc => .rrc
  | .ral => .ral
  | .rar => .rar

/-- `RST n` (R224). -/
def Instr.rst : Fin 8 → Instr
  | 0 => .rst0
  | 1 => .rst1
  | 2 => .rst2
  | 3 => .rst3
  | 4 => .rst4
  | 5 => .rst5
  | 6 => .rst6
  | 7 => .rst7

end Sys2Proof
end

