-- ==== Sys2Proof/WellFormed.lean ====
section
/-! DEFINITION. Which terms of the syntax stand for something the hardware has. -/

namespace Sys2Proof

/-- Every term of `Instr` is an instruction of the hardware, so nothing is left to check: each operand is a bit vector
of exactly its field's width, "No operand byte value is reserved" and there are no reserved encodings (R97), and each
value of an alias field is an opcode of the table (R95). -/
def Instr.wellFormed (_ : Instr) : Bool := true

/-- One `load` of the host: the bytes and the offset they go to (R57). -/
structure Segment where
  bytes : List Byte
  offset : Nat
  deriving DecidableEq, Repr

/-- CHECK: the data fits the address space; a load that ends at the last byte fits (R57). -/
def Segment.wellFormed (seg : Segment) : Bool :=
  decide (seg.offset + seg.bytes.length ≤ Config.memorySize)

/-- LoadImage: what the host loads after reset, in order (R6, R264). -/
abbrev Image := List Segment

/-- CHECK: every load of the image fits (R57, R264). -/
def Image.wellFormed (image : Image) : Bool := image.all Segment.wellFormed

end Sys2Proof
end

