-- ==== Sys2Proof/Decode.lean ====
section
/-! DEFINITION. The decode table (30_encoding.md), total over the opcode byte, and the encoder. -/

namespace Sys2Proof

/-! Byte order (R8, R58): a word and its two bytes. -/

/-- `{hi, lo} = hi * 256 + lo` (R8). -/
def word16 (hi lo : Byte) : Addr := BitVec.ofNat 16 (hi.toNat * 256 + lo.toNat)

/-- `v[15:8]` (R8). -/
def hiByte (v : Addr) : Byte := BitVec.ofNat 8 (v.toNat / 256)

/-- `v[7:0]` (R8). -/
def loByte (v : Addr) : Byte := BitVec.ofNat 8 (v.toNat % 256)

/-! The codes of the opcode's fields. -/

/-- Register codes (R86); code 6 is `M`. -/
def Reg.code : Reg → Nat
  | .b => 0 | .c => 1 | .d => 2 | .e => 3 | .h => 4 | .l => 5 | .a => 7

/-- Pair codes of LXI, INX, DCX, DAD (R87). -/
def Pair.code : Pair → Nat
  | .bc => 0 | .de => 1 | .hl => 2 | .sp => 3

/-- Pair codes of PUSH and POP (R87); code 3 is PSW. -/
def StackPair.code : StackPair → Nat
  | .bc => 0 | .de => 1 | .hl => 2

/-- Pair codes of LDAX and STAX (R87). -/
def IndPair.code : IndPair → Nat
  | .bc => 0 | .de => 1

/-- Condition codes (R88). -/
def Cond.code : Cond → Nat
  | .nz => 0 | .z => 1 | .nc => 2 | .c => 3 | .po => 4 | .pe => 5 | .p => 6 | .m => 7

/-- ALU operation codes (R85, field aaa). -/
def AluOp.code : AluOp → Nat
  | .add => 0 | .adc => 1 | .sub => 2 | .sbb => 3 | .ana => 4 | .xra => 5 | .ora => 6 | .cmp => 7

/-! The map of R93, one definition a row, `lo` the column. `b2` and `b3` are the operand bytes: `d8` is `b2`, and
`d16` and `a16` are the word with low byte `b2` and high byte `b3` (R83). -/

/-- Opcodes 0x00 to 0x0F. -/
def decodeRow0 (lo : Nat) (b2 b3 : Byte) : Instr :=
  match lo with
  | 0 => .nop 0                        -- NOP
  | 1 => .lxiB (word16 b3 b2)          -- LXI B,d16
  | 2 => .staxB                        -- STAX B
  | 3 => .inxB                         -- INX B
  | 4 => .inrB                         -- INR B
  | 5 => .dcrB                         -- DCR B
  | 6 => .mviB b2                      -- MVI B,d8
  | 7 => .rlc                          -- RLC
  | 8 => .nop 1                        -- *NOP
  | 9 => .dadB                         -- DAD B
  | 10 => .ldaxB                       -- LDAX B
  | 11 => .dcxB                        -- DCX B
  | 12 => .inrC                        -- INR C
  | 13 => .dcrC                        -- DCR C
  | 14 => .mviC b2                     -- MVI C,d8
  | _ => .rrc                          -- RRC

/-- Opcodes 0x10 to 0x1F. -/
def decodeRow1 (lo : Nat) (b2 b3 : Byte) : Instr :=
  match lo with
  | 0 => .nop 2                        -- *NOP
  | 1 => .lxiD (word16 b3 b2)          -- LXI D,d16
  | 2 => .staxD                        -- STAX D
  | 3 => .inxD                         -- INX D
  | 4 => .inrD                         -- INR D
  | 5 => .dcrD                         -- DCR D
  | 6 => .mviD b2                      -- MVI D,d8
  | 7 => .ral                          -- RAL
  | 8 => .nop 3                        -- *NOP
  | 9 => .dadD                         -- DAD D
  | 10 => .ldaxD                       -- LDAX D
  | 11 => .dcxD                        -- DCX D
  | 12 => .inrE                        -- INR E
  | 13 => .dcrE                        -- DCR E
  | 14 => .mviE b2                     -- MVI E,d8
  | _ => .rar                          -- RAR

/-- Opcodes 0x20 to 0x2F. -/
def decodeRow2 (lo : Nat) (b2 b3 : Byte) : Instr :=
  match lo with
  | 0 => .nop 4                        -- *NOP
  | 1 => .lxiH (word16 b3 b2)          -- LXI H,d16
  | 2 => .shld (word16 b3 b2)          -- SHLD a16
  | 3 => .inxH                         -- INX H
  | 4 => .inrH                         -- INR H
  | 5 => .dcrH                         -- DCR H
  | 6 => .mviH b2                      -- MVI H,d8
  | 7 => .daa                          -- DAA
  | 8 => .nop 5                        -- *NOP
  | 9 => .dadH                         -- DAD H
  | 10 => .lhld (word16 b3 b2)         -- LHLD a16
  | 11 => .dcxH                        -- DCX H
  | 12 => .inrL                        -- INR L
  | 13 => .dcrL                        -- DCR L
  | 14 => .mviL b2                     -- MVI L,d8
  | _ => .cma                          -- CMA

/-- Opcodes 0x30 to 0x3F. -/
def decodeRow3 (lo : Nat) (b2 b3 : Byte) : Instr :=
  match lo with
  | 0 => .nop 6                        -- *NOP
  | 1 => .lxiSP (word16 b3 b2)         -- LXI SP,d16
  | 2 => .sta (word16 b3 b2)           -- STA a16
  | 3 => .inxSP                        -- INX SP
  | 4 => .inrM                         -- INR M
  | 5 => .dcrM                         -- DCR M
  | 6 => .mviM b2                      -- MVI M,d8
  | 7 => .stc                          -- STC
  | 8 => .nop 7                        -- *NOP
  | 9 => .dadSP                        -- DAD SP
  | 10 => .lda (word16 b3 b2)          -- LDA a16
  | 11 => .dcxSP                       -- DCX SP
  | 12 => .inrA                        -- INR A
  | 13 => .dcrA                        -- DCR A
  | 14 => .mviA b2                     -- MVI A,d8
  | _ => .cmc                          -- CMC

/-- Opcodes 0x40 to 0x4F. -/
def decodeRow4 (lo : Nat) (_b2 _b3 : Byte) : Instr :=
  match lo with
  | 0 => .movBB                        -- MOV B,B
  | 1 => .movBC                        -- MOV B,C
  | 2 => .movBD                        -- MOV B,D
  | 3 => .movBE                        -- MOV B,E
  | 4 => .movBH                        -- MOV B,H
  | 5 => .movBL                        -- MOV B,L
  | 6 => .movBM                        -- MOV B,M
  | 7 => .movBA                        -- MOV B,A
  | 8 => .movCB                        -- MOV C,B
  | 9 => .movCC                        -- MOV C,C
  | 10 => .movCD                       -- MOV C,D
  | 11 => .movCE                       -- MOV C,E
  | 12 => .movCH                       -- MOV C,H
  | 13 => .movCL                       -- MOV C,L
  | 14 => .movCM                       -- MOV C,M
  | _ => .movCA                        -- MOV C,A

/-- Opcodes 0x50 to 0x5F. -/
def decodeRow5 (lo : Nat) (_b2 _b3 : Byte) : Instr :=
  match lo with
  | 0 => .movDB                        -- MOV D,B
  | 1 => .movDC                        -- MOV D,C
  | 2 => .movDD                        -- MOV D,D
  | 3 => .movDE                        -- MOV D,E
  | 4 => .movDH                        -- MOV D,H
  | 5 => .movDL                        -- MOV D,L
  | 6 => .movDM                        -- MOV D,M
  | 7 => .movDA                        -- MOV D,A
  | 8 => .movEB                        -- MOV E,B
  | 9 => .movEC                        -- MOV E,C
  | 10 => .movED                       -- MOV E,D
  | 11 => .movEE                       -- MOV E,E
  | 12 => .movEH                       -- MOV E,H
  | 13 => .movEL                       -- MOV E,L
  | 14 => .movEM                       -- MOV E,M
  | _ => .movEA                        -- MOV E,A

/-- Opcodes 0x60 to 0x6F. -/
def decodeRow6 (lo : Nat) (_b2 _b3 : Byte) : Instr :=
  match lo with
  | 0 => .movHB                        -- MOV H,B
  | 1 => .movHC                        -- MOV H,C
  | 2 => .movHD                        -- MOV H,D
  | 3 => .movHE                        -- MOV H,E
  | 4 => .movHH                        -- MOV H,H
  | 5 => .movHL                        -- MOV H,L
  | 6 => .movHM                        -- MOV H,M
  | 7 => .movHA                        -- MOV H,A
  | 8 => .movLB                        -- MOV L,B
  | 9 => .movLC                        -- MOV L,C
  | 10 => .movLD                       -- MOV L,D
  | 11 => .movLE                       -- MOV L,E
  | 12 => .movLH                       -- MOV L,H
  | 13 => .movLL                       -- MOV L,L
  | 14 => .movLM                       -- MOV L,M
  | _ => .movLA                        -- MOV L,A

/-- Opcodes 0x70 to 0x7F. -/
def decodeRow7 (lo : Nat) (_b2 _b3 : Byte) : Instr :=
  match lo with
  | 0 => .movMB                        -- MOV M,B
  | 1 => .movMC                        -- MOV M,C
  | 2 => .movMD                        -- MOV M,D
  | 3 => .movME                        -- MOV M,E
  | 4 => .movMH                        -- MOV M,H
  | 5 => .movML                        -- MOV M,L
  | 6 => .hlt                          -- HLT
  | 7 => .movMA                        -- MOV M,A
  | 8 => .movAB                        -- MOV A,B
  | 9 => .movAC                        -- MOV A,C
  | 10 => .movAD                       -- MOV A,D
  | 11 => .movAE                       -- MOV A,E
  | 12 => .movAH                       -- MOV A,H
  | 13 => .movAL                       -- MOV A,L
  | 14 => .movAM                       -- MOV A,M
  | _ => .movAA                        -- MOV A,A

/-- Opcodes 0x80 to 0x8F. -/
def decodeRow8 (lo : Nat) (_b2 _b3 : Byte) : Instr :=
  match lo with
  | 0 => .addB                         -- ADD B
  | 1 => .addC                         -- ADD C
  | 2 => .addD                         -- ADD D
  | 3 => .addE                         -- ADD E
  | 4 => .addH                         -- ADD H
  | 5 => .addL                         -- ADD L
  | 6 => .addM                         -- ADD M
  | 7 => .addA                         -- ADD A
  | 8 => .adcB                         -- ADC B
  | 9 => .adcC                         -- ADC C
  | 10 => .adcD                        -- ADC D
  | 11 => .adcE                        -- ADC E
  | 12 => .adcH                        -- ADC H
  | 13 => .adcL                        -- ADC L
  | 14 => .adcM                        -- ADC M
  | _ => .adcA                         -- ADC A

/-- Opcodes 0x90 to 0x9F. -/
def decodeRow9 (lo : Nat) (_b2 _b3 : Byte) : Instr :=
  match lo with
  | 0 => .subB                         -- SUB B
  | 1 => .subC                         -- SUB C
  | 2 => .subD                         -- SUB D
  | 3 => .subE                         -- SUB E
  | 4 => .subH                         -- SUB H
  | 5 => .subL                         -- SUB L
  | 6 => .subM                         -- SUB M
  | 7 => .subA                         -- SUB A
  | 8 => .sbbB                         -- SBB B
  | 9 => .sbbC                         -- SBB C
  | 10 => .sbbD                        -- SBB D
  | 11 => .sbbE                        -- SBB E
  | 12 => .sbbH                        -- SBB H
  | 13 => .sbbL                        -- SBB L
  | 14 => .sbbM                        -- SBB M
  | _ => .sbbA                         -- SBB A

/-- Opcodes 0xA0 to 0xAF. -/
def decodeRowA (lo : Nat) (_b2 _b3 : Byte) : Instr :=
  match lo with
  | 0 => .anaB                         -- ANA B
  | 1 => .anaC                         -- ANA C
  | 2 => .anaD                         -- ANA D
  | 3 => .anaE                         -- ANA E
  | 4 => .anaH                         -- ANA H
  | 5 => .anaL                         -- ANA L
  | 6 => .anaM                         -- ANA M
  | 7 => .anaA                         -- ANA A
  | 8 => .xraB                         -- XRA B
  | 9 => .xraC                         -- XRA C
  | 10 => .xraD                        -- XRA D
  | 11 => .xraE                        -- XRA E
  | 12 => .xraH                        -- XRA H
  | 13 => .xraL                        -- XRA L
  | 14 => .xraM                        -- XRA M
  | _ => .xraA                         -- XRA A

/-- Opcodes 0xB0 to 0xBF. -/
def decodeRowB (lo : Nat) (_b2 _b3 : Byte) : Instr :=
  match lo with
  | 0 => .oraB                         -- ORA B
  | 1 => .oraC                         -- ORA C
  | 2 => .oraD                         -- ORA D
  | 3 => .oraE                         -- ORA E
  | 4 => .oraH                         -- ORA H
  | 5 => .oraL                         -- ORA L
  | 6 => .oraM                         -- ORA M
  | 7 => .oraA                         -- ORA A
  | 8 => .cmpB                         -- CMP B
  | 9 => .cmpC                         -- CMP C
  | 10 => .cmpD                        -- CMP D
  | 11 => .cmpE                        -- CMP E
  | 12 => .cmpH                        -- CMP H
  | 13 => .cmpL                        -- CMP L
  | 14 => .cmpM                        -- CMP M
  | _ => .cmpA                         -- CMP A

/-- Opcodes 0xC0 to 0xCF. -/
def decodeRowC (lo : Nat) (b2 b3 : Byte) : Instr :=
  match lo with
  | 0 => .rnz                          -- RNZ
  | 1 => .popB                         -- POP B
  | 2 => .jnz (word16 b3 b2)           -- JNZ a16
  | 3 => .jmp 0 (word16 b3 b2)         -- JMP a16
  | 4 => .cnz (word16 b3 b2)           -- CNZ a16
  | 5 => .pushB                        -- PUSH B
  | 6 => .adi b2                       -- ADI d8
  | 7 => .rst0                         -- RST 0
  | 8 => .rz                           -- RZ
  | 9 => .ret 0                        -- RET
  | 10 => .jz (word16 b3 b2)           -- JZ a16
  | 11 => .jmp 1 (word16 b3 b2)        -- *JMP a16
  | 12 => .cz (word16 b3 b2)           -- CZ a16
  | 13 => .call 0 (word16 b3 b2)       -- CALL a16
  | 14 => .aci b2                      -- ACI d8
  | _ => .rst1                         -- RST 1

/-- Opcodes 0xD0 to 0xDF. -/
def decodeRowD (lo : Nat) (b2 b3 : Byte) : Instr :=
  match lo with
  | 0 => .rnc                          -- RNC
  | 1 => .popD                         -- POP D
  | 2 => .jnc (word16 b3 b2)           -- JNC a16
  | 3 => .outPort b2                   -- OUT d8
  | 4 => .cnc (word16 b3 b2)           -- CNC a16
  | 5 => .pushD                        -- PUSH D
  | 6 => .sui b2                       -- SUI d8
  | 7 => .rst2                         -- RST 2
  | 8 => .rc                           -- RC
  | 9 => .ret 1                        -- *RET
  | 10 => .jc (word16 b3 b2)           -- JC a16
  | 11 => .inPort b2                   -- IN d8
  | 12 => .cc (word16 b3 b2)           -- CC a16
  | 13 => .call 1 (word16 b3 b2)       -- *CALL a16
  | 14 => .sbi b2                      -- SBI d8
  | _ => .rst3                         -- RST 3

/-- Opcodes 0xE0 to 0xEF. -/
def decodeRowE (lo : Nat) (b2 b3 : Byte) : Instr :=
  match lo with
  | 0 => .rpo                          -- RPO
  | 1 => .popH                         -- POP H
  | 2 => .jpo (word16 b3 b2)           -- JPO a16
  | 3 => .xthl                         -- XTHL
  | 4 => .cpo (word16 b3 b2)           -- CPO a16
  | 5 => .pushH                        -- PUSH H
  | 6 => .ani b2                       -- ANI d8
  | 7 => .rst4                         -- RST 4
  | 8 => .rpe                          -- RPE
  | 9 => .pchl                         -- PCHL
  | 10 => .jpe (word16 b3 b2)          -- JPE a16
  | 11 => .xchg                        -- XCHG
  | 12 => .cpe (word16 b3 b2)          -- CPE a16
  | 13 => .call 2 (word16 b3 b2)       -- *CALL a16
  | 14 => .xri b2                      -- XRI d8
  | _ => .rst5                         -- RST 5

/-- Opcodes 0xF0 to 0xFF. -/
def decodeRowF (lo : Nat) (b2 b3 : Byte) : Instr :=
  match lo with
  | 0 => .rp                           -- RP
  | 1 => .popPSW                       -- POP PSW
  | 2 => .jp (word16 b3 b2)            -- JP a16
  | 3 => .di                           -- DI
  | 4 => .cp (word16 b3 b2)            -- CP a16
  | 5 => .pushPSW                      -- PUSH PSW
  | 6 => .ori b2                       -- ORI d8
  | 7 => .rst6                         -- RST 6
  | 8 => .rm                           -- RM
  | 9 => .sphl                         -- SPHL
  | 10 => .jm (word16 b3 b2)           -- JM a16
  | 11 => .ei                          -- EI
  | 12 => .cm (word16 b3 b2)           -- CM a16
  | 13 => .call 3 (word16 b3 b2)       -- *CALL a16
  | 14 => .cpi b2                      -- CPI d8
  | _ => .rst7                         -- RST 7

/-- The instruction of an opcode byte and the bytes after it (R80, R83): row by the high digit, column by the low digit
(R93). An instruction shorter than three bytes does not use the bytes it does not have. -/
def decodeOp (op b2 b3 : Byte) : Instr :=
  match op.toNat / 16 with
  | 0 => decodeRow0 (op.toNat % 16) b2 b3
  | 1 => decodeRow1 (op.toNat % 16) b2 b3
  | 2 => decodeRow2 (op.toNat % 16) b2 b3
  | 3 => decodeRow3 (op.toNat % 16) b2 b3
  | 4 => decodeRow4 (op.toNat % 16) b2 b3
  | 5 => decodeRow5 (op.toNat % 16) b2 b3
  | 6 => decodeRow6 (op.toNat % 16) b2 b3
  | 7 => decodeRow7 (op.toNat % 16) b2 b3
  | 8 => decodeRow8 (op.toNat % 16) b2 b3
  | 9 => decodeRow9 (op.toNat % 16) b2 b3
  | 10 => decodeRowA (op.toNat % 16) b2 b3
  | 11 => decodeRowB (op.toNat % 16) b2 b3
  | 12 => decodeRowC (op.toNat % 16) b2 b3
  | 13 => decodeRowD (op.toNat % 16) b2 b3
  | 14 => decodeRowE (op.toNat % 16) b2 b3
  | _ => decodeRowF (op.toNat % 16) b2 b3

/-- The operand length: 0, 1 or 2 bytes after the opcode (R80, R82, R98). -/
def Instr.operandLength : Instr → Nat
  | .nop _ | .staxB | .inxB | .inrB | .dcrB | .rlc | .dadB | .ldaxB | .dcxB | .inrC | .dcrC | .rrc | .staxD
  | .inxD | .inrD | .dcrD | .ral | .dadD | .ldaxD | .dcxD | .inrE | .dcrE | .rar | .inxH | .inrH | .dcrH | .daa
  | .dadH | .dcxH | .inrL | .dcrL | .cma | .inxSP | .inrM | .dcrM | .stc | .dadSP | .dcxSP | .inrA | .dcrA
  | .cmc | .movBB | .movBC | .movBD | .movBE | .movBH | .movBL | .movBM | .movBA | .movCB | .movCC | .movCD
  | .movCE | .movCH | .movCL | .movCM | .movCA | .movDB | .movDC | .movDD | .movDE | .movDH | .movDL | .movDM
  | .movDA | .movEB | .movEC | .movED | .movEE | .movEH | .movEL | .movEM | .movEA | .movHB | .movHC | .movHD
  | .movHE | .movHH | .movHL | .movHM | .movHA | .movLB | .movLC | .movLD | .movLE | .movLH | .movLL | .movLM
  | .movLA | .movMB | .movMC | .movMD | .movME | .movMH | .movML | .hlt | .movMA | .movAB | .movAC | .movAD
  | .movAE | .movAH | .movAL | .movAM | .movAA | .addB | .addC | .addD | .addE | .addH | .addL | .addM | .addA
  | .adcB | .adcC | .adcD | .adcE | .adcH | .adcL | .adcM | .adcA | .subB | .subC | .subD | .subE | .subH
  | .subL | .subM | .subA | .sbbB | .sbbC | .sbbD | .sbbE | .sbbH | .sbbL | .sbbM | .sbbA | .anaB | .anaC
  | .anaD | .anaE | .anaH | .anaL | .anaM | .anaA | .xraB | .xraC | .xraD | .xraE | .xraH | .xraL | .xraM
  | .xraA | .oraB | .oraC | .oraD | .oraE | .oraH | .oraL | .oraM | .oraA | .cmpB | .cmpC | .cmpD | .cmpE
  | .cmpH | .cmpL | .cmpM | .cmpA | .rnz | .popB | .pushB | .rst0 | .rz | .ret _ | .rst1 | .rnc | .popD
  | .pushD | .rst2 | .rc | .rst3 | .rpo | .popH | .xthl | .pushH | .rst4 | .rpe | .pchl | .xchg | .rst5 | .rp
  | .popPSW | .di | .pushPSW | .rst6 | .rm | .sphl | .ei | .rst7 => 0
  | .lxiB _ | .lxiD _ | .lxiH _ | .shld _ | .lhld _ | .lxiSP _ | .sta _ | .lda _ | .jnz _ | .jmp _ _ | .cnz _
  | .jz _ | .cz _ | .call _ _ | .jnc _ | .cnc _ | .jc _ | .cc _ | .jpo _ | .cpo _ | .jpe _ | .cpe _ | .jp _
  | .cp _ | .jm _ | .cm _ => 2
  | .mviB _ | .mviC _ | .mviD _ | .mviE _ | .mviH _ | .mviL _ | .mviM _ | .mviA _ | .adi _ | .aci _
  | .outPort _ | .sui _ | .inPort _ | .sbi _ | .ani _ | .xri _ | .ori _ | .cpi _ => 1

/-- The kind tag of an instruction (R94). -/
def Instr.kind : Instr → Kind
  | .nop _ => .noOp
  | .lxiB _ | .lxiD _ | .lxiH _ | .lxiSP _ => .loadPairImmediate
  | .staxB | .staxD => .storeAccIndirect
  | .inxB | .inxD | .inxH | .inxSP => .pairIncrement
  | .inrB | .inrC | .inrD | .inrE | .inrH | .inrL | .inrA => .incrementRegister
  | .dcrB | .dcrC | .dcrD | .dcrE | .dcrH | .dcrL | .dcrA => .decrementRegister
  | .mviB _ | .mviC _ | .mviD _ | .mviE _ | .mviH _ | .mviL _ | .mviA _ => .moveImmediate
  | .rlc | .rrc | .ral | .rar => .rotate
  | .dadB | .dadD | .dadH | .dadSP => .pairAdd
  | .ldaxB | .ldaxD => .loadAccIndirect
  | .dcxB | .dcxD | .dcxH | .dcxSP => .pairDecrement
  | .shld _ => .storeHLDirect
  | .daa => .decimalAdjust
  | .lhld _ => .loadHLDirect
  | .cma => .complementAcc
  | .sta _ => .storeAccDirect
  | .inrM => .incrementMemory
  | .dcrM => .decrementMemory
  | .mviM _ => .moveImmediateToMemory
  | .stc => .setCarry
  | .lda _ => .loadAccDirect
  | .cmc => .complementCarry
  | .movBB | .movBC | .movBD | .movBE | .movBH | .movBL | .movBA | .movCB | .movCC | .movCD | .movCE | .movCH
  | .movCL | .movCA | .movDB | .movDC | .movDD | .movDE | .movDH | .movDL | .movDA | .movEB | .movEC | .movED
  | .movEE | .movEH | .movEL | .movEA | .movHB | .movHC | .movHD | .movHE | .movHH | .movHL | .movHA | .movLB
  | .movLC | .movLD | .movLE | .movLH | .movLL | .movLA | .movAB | .movAC | .movAD | .movAE | .movAH | .movAL
  | .movAA => .moveRegister
  | .movBM | .movCM | .movDM | .movEM | .movHM | .movLM | .movAM => .moveFromMemory
  | .movMB | .movMC | .movMD | .movME | .movMH | .movML | .movMA => .moveToMemory
  | .hlt => .halt
  | .addB | .addC | .addD | .addE | .addH | .addL | .addA => .aluRegister .add
  | .addM => .aluMemory .add
  | .adcB | .adcC | .adcD | .adcE | .adcH | .adcL | .adcA => .aluRegister .adc
  | .adcM => .aluMemory .adc
  | .subB | .subC | .subD | .subE | .subH | .subL | .subA => .aluRegister .sub
  | .subM => .aluMemory .sub
  | .sbbB | .sbbC | .sbbD | .sbbE | .sbbH | .sbbL | .sbbA => .aluRegister .sbb
  | .sbbM => .aluMemory .sbb
  | .anaB | .anaC | .anaD | .anaE | .anaH | .anaL | .anaA => .aluRegister .ana
  | .anaM => .aluMemory .ana
  | .xraB | .xraC | .xraD | .xraE | .xraH | .xraL | .xraA => .aluRegister .xra
  | .xraM => .aluMemory .xra
  | .oraB | .oraC | .oraD | .oraE | .oraH | .oraL | .oraA => .aluRegister .ora
  | .oraM => .aluMemory .ora
  | .cmpB | .cmpC | .cmpD | .cmpE | .cmpH | .cmpL | .cmpA => .aluRegister .cmp
  | .cmpM => .aluMemory .cmp
  | .rnz | .rz | .rnc | .rc | .rpo | .rpe | .rp | .rm => .conditionalReturn
  | .popB | .popD | .popH => .pop
  | .jnz _ | .jz _ | .jnc _ | .jc _ | .jpo _ | .jpe _ | .jp _ | .jm _ => .conditionalJump
  | .jmp _ _ => .jump
  | .cnz _ | .cz _ | .cnc _ | .cc _ | .cpo _ | .cpe _ | .cp _ | .cm _ => .conditionalCall
  | .pushB | .pushD | .pushH => .push
  | .adi _ => .aluImmediate .add
  | .rst0 | .rst1 | .rst2 | .rst3 | .rst4 | .rst5 | .rst6 | .rst7 => .restart
  | .ret _ => .returns
  | .call _ _ => .call
  | .aci _ => .aluImmediate .adc
  | .outPort _ => .output
  | .sui _ => .aluImmediate .sub
  | .inPort _ => .input
  | .sbi _ => .aluImmediate .sbb
  | .xthl => .exchangeStackTop
  | .ani _ => .aluImmediate .ana
  | .pchl => .jumpHL
  | .xchg => .exchangeHLDE
  | .xri _ => .aluImmediate .xra
  | .popPSW => .popPSW
  | .di => .disableInterrupts
  | .pushPSW => .pushPSW
  | .ori _ => .aluImmediate .ora
  | .sphl => .loadSPFromHL
  | .ei => .enableInterrupts
  | .cpi _ => .aluImmediate .cmp

/-- The mnemonic (R93, R99), for people; no step reads it (R81). -/
def Instr.mnemonic : Instr → String
  | .nop _ => "NOP"
  | .lxiB _ => "LXI B,d16"
  | .staxB => "STAX B"
  | .inxB => "INX B"
  | .inrB => "INR B"
  | .dcrB => "DCR B"
  | .mviB _ => "MVI B,d8"
  | .rlc => "RLC"
  | .dadB => "DAD B"
  | .ldaxB => "LDAX B"
  | .dcxB => "DCX B"
  | .inrC => "INR C"
  | .dcrC => "DCR C"
  | .mviC _ => "MVI C,d8"
  | .rrc => "RRC"
  | .lxiD _ => "LXI D,d16"
  | .staxD => "STAX D"
  | .inxD => "INX D"
  | .inrD => "INR D"
  | .dcrD => "DCR D"
  | .mviD _ => "MVI D,d8"
  | .ral => "RAL"
  | .dadD => "DAD D"
  | .ldaxD => "LDAX D"
  | .dcxD => "DCX D"
  | .inrE => "INR E"
  | .dcrE => "DCR E"
  | .mviE _ => "MVI E,d8"
  | .rar => "RAR"
  | .lxiH _ => "LXI H,d16"
  | .shld _ => "SHLD a16"
  | .inxH => "INX H"
  | .inrH => "INR H"
  | .dcrH => "DCR H"
  | .mviH _ => "MVI H,d8"
  | .daa => "DAA"
  | .dadH => "DAD H"
  | .lhld _ => "LHLD a16"
  | .dcxH => "DCX H"
  | .inrL => "INR L"
  | .dcrL => "DCR L"
  | .mviL _ => "MVI L,d8"
  | .cma => "CMA"
  | .lxiSP _ => "LXI SP,d16"
  | .sta _ => "STA a16"
  | .inxSP => "INX SP"
  | .inrM => "INR M"
  | .dcrM => "DCR M"
  | .mviM _ => "MVI M,d8"
  | .stc => "STC"
  | .dadSP => "DAD SP"
  | .lda _ => "LDA a16"
  | .dcxSP => "DCX SP"
  | .inrA => "INR A"
  | .dcrA => "DCR A"
  | .mviA _ => "MVI A,d8"
  | .cmc => "CMC"
  | .movBB => "MOV B,B"
  | .movBC => "MOV B,C"
  | .movBD => "MOV B,D"
  | .movBE => "MOV B,E"
  | .movBH => "MOV B,H"
  | .movBL => "MOV B,L"
  | .movBM => "MOV B,M"
  | .movBA => "MOV B,A"
  | .movCB => "MOV C,B"
  | .movCC => "MOV C,C"
  | .movCD => "MOV C,D"
  | .movCE => "MOV C,E"
  | .movCH => "MOV C,H"
  | .movCL => "MOV C,L"
  | .movCM => "MOV C,M"
  | .movCA => "MOV C,A"
  | .movDB => "MOV D,B"
  | .movDC => "MOV D,C"
  | .movDD => "MOV D,D"
  | .movDE => "MOV D,E"
  | .movDH => "MOV D,H"
  | .movDL => "MOV D,L"
  | .movDM => "MOV D,M"
  | .movDA => "MOV D,A"
  | .movEB => "MOV E,B"
  | .movEC => "MOV E,C"
  | .movED => "MOV E,D"
  | .movEE => "MOV E,E"
  | .movEH => "MOV E,H"
  | .movEL => "MOV E,L"
  | .movEM => "MOV E,M"
  | .movEA => "MOV E,A"
  | .movHB => "MOV H,B"
  | .movHC => "MOV H,C"
  | .movHD => "MOV H,D"
  | .movHE => "MOV H,E"
  | .movHH => "MOV H,H"
  | .movHL => "MOV H,L"
  | .movHM => "MOV H,M"
  | .movHA => "MOV H,A"
  | .movLB => "MOV L,B"
  | .movLC => "MOV L,C"
  | .movLD => "MOV L,D"
  | .movLE => "MOV L,E"
  | .movLH => "MOV L,H"
  | .movLL => "MOV L,L"
  | .movLM => "MOV L,M"
  | .movLA => "MOV L,A"
  | .movMB => "MOV M,B"
  | .movMC => "MOV M,C"
  | .movMD => "MOV M,D"
  | .movME => "MOV M,E"
  | .movMH => "MOV M,H"
  | .movML => "MOV M,L"
  | .hlt => "HLT"
  | .movMA => "MOV M,A"
  | .movAB => "MOV A,B"
  | .movAC => "MOV A,C"
  | .movAD => "MOV A,D"
  | .movAE => "MOV A,E"
  | .movAH => "MOV A,H"
  | .movAL => "MOV A,L"
  | .movAM => "MOV A,M"
  | .movAA => "MOV A,A"
  | .addB => "ADD B"
  | .addC => "ADD C"
  | .addD => "ADD D"
  | .addE => "ADD E"
  | .addH => "ADD H"
  | .addL => "ADD L"
  | .addM => "ADD M"
  | .addA => "ADD A"
  | .adcB => "ADC B"
  | .adcC => "ADC C"
  | .adcD => "ADC D"
  | .adcE => "ADC E"
  | .adcH => "ADC H"
  | .adcL => "ADC L"
  | .adcM => "ADC M"
  | .adcA => "ADC A"
  | .subB => "SUB B"
  | .subC => "SUB C"
  | .subD => "SUB D"
  | .subE => "SUB E"
  | .subH => "SUB H"
  | .subL => "SUB L"
  | .subM => "SUB M"
  | .subA => "SUB A"
  | .sbbB => "SBB B"
  | .sbbC => "SBB C"
  | .sbbD => "SBB D"
  | .sbbE => "SBB E"
  | .sbbH => "SBB H"
  | .sbbL => "SBB L"
  | .sbbM => "SBB M"
  | .sbbA => "SBB A"
  | .anaB => "ANA B"
  | .anaC => "ANA C"
  | .anaD => "ANA D"
  | .anaE => "ANA E"
  | .anaH => "ANA H"
  | .anaL => "ANA L"
  | .anaM => "ANA M"
  | .anaA => "ANA A"
  | .xraB => "XRA B"
  | .xraC => "XRA C"
  | .xraD => "XRA D"
  | .xraE => "XRA E"
  | .xraH => "XRA H"
  | .xraL => "XRA L"
  | .xraM => "XRA M"
  | .xraA => "XRA A"
  | .oraB => "ORA B"
  | .oraC => "ORA C"
  | .oraD => "ORA D"
  | .oraE => "ORA E"
  | .oraH => "ORA H"
  | .oraL => "ORA L"
  | .oraM => "ORA M"
  | .oraA => "ORA A"
  | .cmpB => "CMP B"
  | .cmpC => "CMP C"
  | .cmpD => "CMP D"
  | .cmpE => "CMP E"
  | .cmpH => "CMP H"
  | .cmpL => "CMP L"
  | .cmpM => "CMP M"
  | .cmpA => "CMP A"
  | .rnz => "RNZ"
  | .popB => "POP B"
  | .jnz _ => "JNZ a16"
  | .jmp _ _ => "JMP a16"
  | .cnz _ => "CNZ a16"
  | .pushB => "PUSH B"
  | .adi _ => "ADI d8"
  | .rst0 => "RST 0"
  | .rz => "RZ"
  | .ret _ => "RET"
  | .jz _ => "JZ a16"
  | .cz _ => "CZ a16"
  | .call _ _ => "CALL a16"
  | .aci _ => "ACI d8"
  | .rst1 => "RST 1"
  | .rnc => "RNC"
  | .popD => "POP D"
  | .jnc _ => "JNC a16"
  | .outPort _ => "OUT d8"
  | .cnc _ => "CNC a16"
  | .pushD => "PUSH D"
  | .sui _ => "SUI d8"
  | .rst2 => "RST 2"
  | .rc => "RC"
  | .jc _ => "JC a16"
  | .inPort _ => "IN d8"
  | .cc _ => "CC a16"
  | .sbi _ => "SBI d8"
  | .rst3 => "RST 3"
  | .rpo => "RPO"
  | .popH => "POP H"
  | .jpo _ => "JPO a16"
  | .xthl => "XTHL"
  | .cpo _ => "CPO a16"
  | .pushH => "PUSH H"
  | .ani _ => "ANI d8"
  | .rst4 => "RST 4"
  | .rpe => "RPE"
  | .pchl => "PCHL"
  | .jpe _ => "JPE a16"
  | .xchg => "XCHG"
  | .cpe _ => "CPE a16"
  | .xri _ => "XRI d8"
  | .rst5 => "RST 5"
  | .rp => "RP"
  | .popPSW => "POP PSW"
  | .jp _ => "JP a16"
  | .di => "DI"
  | .cp _ => "CP a16"
  | .pushPSW => "PUSH PSW"
  | .ori _ => "ORI d8"
  | .rst6 => "RST 6"
  | .rm => "RM"
  | .sphl => "SPHL"
  | .jm _ => "JM a16"
  | .ei => "EI"
  | .cm _ => "CM a16"
  | .cpi _ => "CPI d8"
  | .rst7 => "RST 7"

/-- An entry of the decode table (R80). -/
structure TableEntry where
  mnemonic : String
  operandLength : Nat
  kind : Kind
  deriving DecidableEq, Repr

/-- The decode table (R80, R101): one entry for each opcode byte, from the same map `decodeOp` that the step executes. An
opcode of UNIMPL_SET keeps its mnemonic and operand length and has the kind Unimplemented (R96). -/
def decodeTable (unimplSet : List Byte) (op : Byte) : TableEntry :=
  let i := decodeOp op 0 0
  { mnemonic := i.mnemonic
    operandLength := i.operandLength
    kind := if unimplSet.contains op then .unimplemented else i.kind }

/-- Why a list of bytes holds no whole instruction. Every opcode byte decodes (R80), so a byte that is missing is the
only reason. -/
inductive DecodeError where
  /-- The list is empty. -/
  | missingOpcode
  /-- The opcode's operand bytes are not all there. -/
  | missingOperand (op : Byte)
  deriving DecidableEq, Repr

/-- The instruction at the head of a list of bytes and the bytes after it (R82, R98). -/
def decode (bytes : List Byte) : Except DecodeError (Instr × List Byte) :=
  match bytes with
  | [] => .error .missingOpcode
  | op :: rest =>
    match (decodeOp op 0 0).operandLength, rest with
    | 0, rest => .ok (decodeOp op 0 0, rest)
    | 1, b2 :: rest => .ok (decodeOp op b2 0, rest)
    | 2, b2 :: b3 :: rest => .ok (decodeOp op b2 b3, rest)
    | _, _ => .error (.missingOperand op)

/-- The bytes of an instruction: the opcode, then `d8`, or the low and the high byte of `d16` or `a16` (R82, R83). -/
def encode : Instr → List Byte
  | .nop nnn => [BitVec.ofNat 8 (0x00 + 8 * nnn.toNat)]
  | .lxiB d16 => [0x01, loByte d16, hiByte d16]
  | .staxB => [0x02]
  | .inxB => [0x03]
  | .inrB => [0x04]
  | .dcrB => [0x05]
  | .mviB d8 => [0x06, d8]
  | .rlc => [0x07]
  | .dadB => [0x09]
  | .ldaxB => [0x0A]
  | .dcxB => [0x0B]
  | .inrC => [0x0C]
  | .dcrC => [0x0D]
  | .mviC d8 => [0x0E, d8]
  | .rrc => [0x0F]
  | .lxiD d16 => [0x11, loByte d16, hiByte d16]
  | .staxD => [0x12]
  | .inxD => [0x13]
  | .inrD => [0x14]
  | .dcrD => [0x15]
  | .mviD d8 => [0x16, d8]
  | .ral => [0x17]
  | .dadD => [0x19]
  | .ldaxD => [0x1A]
  | .dcxD => [0x1B]
  | .inrE => [0x1C]
  | .dcrE => [0x1D]
  | .mviE d8 => [0x1E, d8]
  | .rar => [0x1F]
  | .lxiH d16 => [0x21, loByte d16, hiByte d16]
  | .shld a16 => [0x22, loByte a16, hiByte a16]
  | .inxH => [0x23]
  | .inrH => [0x24]
  | .dcrH => [0x25]
  | .mviH d8 => [0x26, d8]
  | .daa => [0x27]
  | .dadH => [0x29]
  | .lhld a16 => [0x2A, loByte a16, hiByte a16]
  | .dcxH => [0x2B]
  | .inrL => [0x2C]
  | .dcrL => [0x2D]
  | .mviL d8 => [0x2E, d8]
  | .cma => [0x2F]
  | .lxiSP d16 => [0x31, loByte d16, hiByte d16]
  | .sta a16 => [0x32, loByte a16, hiByte a16]
  | .inxSP => [0x33]
  | .inrM => [0x34]
  | .dcrM => [0x35]
  | .mviM d8 => [0x36, d8]
  | .stc => [0x37]
  | .dadSP => [0x39]
  | .lda a16 => [0x3A, loByte a16, hiByte a16]
  | .dcxSP => [0x3B]
  | .inrA => [0x3C]
  | .dcrA => [0x3D]
  | .mviA d8 => [0x3E, d8]
  | .cmc => [0x3F]
  | .movBB => [0x40]
  | .movBC => [0x41]
  | .movBD => [0x42]
  | .movBE => [0x43]
  | .movBH => [0x44]
  | .movBL => [0x45]
  | .movBM => [0x46]
  | .movBA => [0x47]
  | .movCB => [0x48]
  | .movCC => [0x49]
  | .movCD => [0x4A]
  | .movCE => [0x4B]
  | .movCH => [0x4C]
  | .movCL => [0x4D]
  | .movCM => [0x4E]
  | .movCA => [0x4F]
  | .movDB => [0x50]
  | .movDC => [0x51]
  | .movDD => [0x52]
  | .movDE => [0x53]
  | .movDH => [0x54]
  | .movDL => [0x55]
  | .movDM => [0x56]
  | .movDA => [0x57]
  | .movEB => [0x58]
  | .movEC => [0x59]
  | .movED => [0x5A]
  | .movEE => [0x5B]
  | .movEH => [0x5C]
  | .movEL => [0x5D]
  | .movEM => [0x5E]
  | .movEA => [0x5F]
  | .movHB => [0x60]
  | .movHC => [0x61]
  | .movHD => [0x62]
  | .movHE => [0x63]
  | .movHH => [0x64]
  | .movHL => [0x65]
  | .movHM => [0x66]
  | .movHA => [0x67]
  | .movLB => [0x68]
  | .movLC => [0x69]
  | .movLD => [0x6A]
  | .movLE => [0x6B]
  | .movLH => [0x6C]
  | .movLL => [0x6D]
  | .movLM => [0x6E]
  | .movLA => [0x6F]
  | .movMB => [0x70]
  | .movMC => [0x71]
  | .movMD => [0x72]
  | .movME => [0x73]
  | .movMH => [0x74]
  | .movML => [0x75]
  | .hlt => [0x76]
  | .movMA => [0x77]
  | .movAB => [0x78]
  | .movAC => [0x79]
  | .movAD => [0x7A]
  | .movAE => [0x7B]
  | .movAH => [0x7C]
  | .movAL => [0x7D]
  | .movAM => [0x7E]
  | .movAA => [0x7F]
  | .addB => [0x80]
  | .addC => [0x81]
  | .addD => [0x82]
  | .addE => [0x83]
  | .addH => [0x84]
  | .addL => [0x85]
  | .addM => [0x86]
  | .addA => [0x87]
  | .adcB => [0x88]
  | .adcC => [0x89]
  | .adcD => [0x8A]
  | .adcE => [0x8B]
  | .adcH => [0x8C]
  | .adcL => [0x8D]
  | .adcM => [0x8E]
  | .adcA => [0x8F]
  | .subB => [0x90]
  | .subC => [0x91]
  | .subD => [0x92]
  | .subE => [0x93]
  | .subH => [0x94]
  | .subL => [0x95]
  | .subM => [0x96]
  | .subA => [0x97]
  | .sbbB => [0x98]
  | .sbbC => [0x99]
  | .sbbD => [0x9A]
  | .sbbE => [0x9B]
  | .sbbH => [0x9C]
  | .sbbL => [0x9D]
  | .sbbM => [0x9E]
  | .sbbA => [0x9F]
  | .anaB => [0xA0]
  | .anaC => [0xA1]
  | .anaD => [0xA2]
  | .anaE => [0xA3]
  | .anaH => [0xA4]
  | .anaL => [0xA5]
  | .anaM => [0xA6]
  | .anaA => [0xA7]
  | .xraB => [0xA8]
  | .xraC => [0xA9]
  | .xraD => [0xAA]
  | .xraE => [0xAB]
  | .xraH => [0xAC]
  | .xraL => [0xAD]
  | .xraM => [0xAE]
  | .xraA => [0xAF]
  | .oraB => [0xB0]
  | .oraC => [0xB1]
  | .oraD => [0xB2]
  | .oraE => [0xB3]
  | .oraH => [0xB4]
  | .oraL => [0xB5]
  | .oraM => [0xB6]
  | .oraA => [0xB7]
  | .cmpB => [0xB8]
  | .cmpC => [0xB9]
  | .cmpD => [0xBA]
  | .cmpE => [0xBB]
  | .cmpH => [0xBC]
  | .cmpL => [0xBD]
  | .cmpM => [0xBE]
  | .cmpA => [0xBF]
  | .rnz => [0xC0]
  | .popB => [0xC1]
  | .jnz a16 => [0xC2, loByte a16, hiByte a16]
  | .jmp x a16 => [BitVec.ofNat 8 (0xC3 + 8 * x.toNat), loByte a16, hiByte a16]
  | .cnz a16 => [0xC4, loByte a16, hiByte a16]
  | .pushB => [0xC5]
  | .adi d8 => [0xC6, d8]
  | .rst0 => [0xC7]
  | .rz => [0xC8]
  | .ret x => [BitVec.ofNat 8 (0xC9 + 16 * x.toNat)]
  | .jz a16 => [0xCA, loByte a16, hiByte a16]
  | .cz a16 => [0xCC, loByte a16, hiByte a16]
  | .call xx a16 => [BitVec.ofNat 8 (0xCD + 16 * xx.toNat), loByte a16, hiByte a16]
  | .aci d8 => [0xCE, d8]
  | .rst1 => [0xCF]
  | .rnc => [0xD0]
  | .popD => [0xD1]
  | .jnc a16 => [0xD2, loByte a16, hiByte a16]
  | .outPort d8 => [0xD3, d8]
  | .cnc a16 => [0xD4, loByte a16, hiByte a16]
  | .pushD => [0xD5]
  | .sui d8 => [0xD6, d8]
  | .rst2 => [0xD7]
  | .rc => [0xD8]
  | .jc a16 => [0xDA, loByte a16, hiByte a16]
  | .inPort d8 => [0xDB, d8]
  | .cc a16 => [0xDC, loByte a16, hiByte a16]
  | .sbi d8 => [0xDE, d8]
  | .rst3 => [0xDF]
  | .rpo => [0xE0]
  | .popH => [0xE1]
  | .jpo a16 => [0xE2, loByte a16, hiByte a16]
  | .xthl => [0xE3]
  | .cpo a16 => [0xE4, loByte a16, hiByte a16]
  | .pushH => [0xE5]
  | .ani d8 => [0xE6, d8]
  | .rst4 => [0xE7]
  | .rpe => [0xE8]
  | .pchl => [0xE9]
  | .jpe a16 => [0xEA, loByte a16, hiByte a16]
  | .xchg => [0xEB]
  | .cpe a16 => [0xEC, loByte a16, hiByte a16]
  | .xri d8 => [0xEE, d8]
  | .rst5 => [0xEF]
  | .rp => [0xF0]
  | .popPSW => [0xF1]
  | .jp a16 => [0xF2, loByte a16, hiByte a16]
  | .di => [0xF3]
  | .cp a16 => [0xF4, loByte a16, hiByte a16]
  | .pushPSW => [0xF5]
  | .ori d8 => [0xF6, d8]
  | .rst6 => [0xF7]
  | .rm => [0xF8]
  | .sphl => [0xF9]
  | .jm a16 => [0xFA, loByte a16, hiByte a16]
  | .ei => [0xFB]
  | .cm a16 => [0xFC, loByte a16, hiByte a16]
  | .cpi d8 => [0xFE, d8]
  | .rst7 => [0xFF]

/-- Byte `k` of a table word: bit 0 is the least significant bit of the first byte. -/
def tableByte (w k : Nat) : Byte := BitVec.ofNat 8 (w / 2 ^ (8 * k))

/-- The three bytes an instruction of `nbits` bits with value `w` can take; every bit above `nbits` is 0. -/
def tableBytes (nbits w : Nat) : List Byte :=
  [tableByte (w % 2 ^ nbits) 0, tableByte (w % 2 ^ nbits) 1, tableByte (w % 2 ^ nbits) 2]

/-- The instruction the decoder reads from a word of spec/opcode_table.json. -/
def decodeTableWord (nbits w : Nat) : Option Instr :=
  match decode (tableBytes nbits w) with
  | .ok (i, _) => some i
  | .error _ => none

end Sys2Proof
end

