-- ==== Sys2Proof/Machine/State.lean ====
section
/-! DEFINITION. The state of the block (10_state.md R20), the model's own record of its inputs and outputs, the
reasons a step can stop, and the state after reset. -/

namespace Sys2Proof.Machine

/-- The seven general registers (R21). The pairs BC, DE, HL are views of them (R22). -/
structure Regs where
  a : Byte
  b : Byte
  c : Byte
  d : Byte
  e : Byte
  h : Byte
  l : Byte
  deriving DecidableEq, Repr

/-- The five flags (R29): zero, sign, parity, carry, auxiliary carry. The PSW byte is a view of them (R38). -/
structure Flags where
  z : Bool
  s : Bool
  p : Bool
  cy : Bool
  ac : Bool
  deriving DecidableEq, Repr

/-- What `RUN` records when the machine has faulted (R40, R241). -/
inductive FaultReason where
  /-- Raised by a step whose opcode has the kind Unimplemented: the opcode byte and the PC it was fetched at (R242).
  Safe: it is the fault the spec names, and the spec says it changes nothing but RUN (R243). -/
  | unimplementedOpcode (value : Byte) (address : Addr)
  deriving DecidableEq, Repr

/-- `RUN`, the run state (R40). -/
inductive RunState where
  | running
  | halted
  | faulted (reason : FaultReason)
  deriving DecidableEq, Repr

/-- Memory: the bytes that differ from RESET_MEMORY_BYTE, by rising address (20_memory.md R50, log entry 8). -/
abbrev Memory := List Host.Cell

/-- The port handler (R60, R220). It stands outside the block. -/
inductive PortHandler where
  /-- The handler the core ships: every read answers DEFAULT_PORT_READ, a write is dropped (R60). -/
  | shipped
  /-- A handler the host installed: the answers already known, in the order they will be given; after them
  every answer is the free value `Config.freePortRead` (log entry 4). -/
  | injected (answers : List Byte)
  deriving DecidableEq, Repr

/-- One output event, `writePort(port, value)` (R221). -/
structure PortWrite where
  port : Byte
  value : Byte
  deriving DecidableEq, Repr

/-- The MODEL's own record, no state of the block: the parameters of R6 that are plain values. No step and no reset
changes them, and every value of them is a machine that the spec allows. -/
structure Params where
  /-- UNIMPL_SET: the opcodes whose kind is Unimplemented (R96, log entry 3). -/
  unimplSet : List Byte
  /-- RESET_MEMORY_BYTE: what every memory byte holds after reset (R260), so what an address that the memory list does
  not name reads as (log entry 7). -/
  resetMemoryByte : Byte
  /-- DEFAULT_PORT_READ: what the shipped port handler answers for every port (R60, log entry 4). -/
  defaultPortRead : Byte
  deriving DecidableEq, Repr

/-- The MODEL's own record, no state of the block: the inputs and outputs that R6 and R7 name. -/
structure Env where
  /-- The port handler (log entry 4). -/
  handler : PortHandler
  /-- How many IN instructions have executed: the counter of the free draws (log entry 4). -/
  portReads : Nat
  /-- The output events so far, oldest first (R221, log entry 5). -/
  portWrites : List PortWrite
  /-- IrqInput: what the collaborator presents at this boundary and at the boundaries after it, none or a
  target; nothing is presented once the list is empty (R236, log entry 6). -/
  irqInput : List (Option Addr)
  deriving DecidableEq, Repr

/-- The whole state: the block's own (R20), and the model's `params` and `env`. -/
structure State where
  regs : Regs
  flags : Flags
  /-- Program counter (R25). -/
  pc : Addr
  /-- Stack pointer (R28). -/
  sp : Addr
  /-- Interrupt enable (R39). -/
  ie : Bool
  /-- Run state (R40). -/
  run : RunState
  /-- Memory (R50). -/
  mem : Memory
  params : Params
  env : Env
  deriving DecidableEq, Repr

/-- The errors the block reports to its host (R241); the fourth name of R241 is `FaultReason.unimplementedOpcode`. -/
inductive Fault where
  /-- Raised by a step when RUN is Halted (R233). Safe: the spec says nothing changes. -/
  | invalidStepWhileHalted
  /-- Raised by a step when RUN is Faulted (R234). Safe: the spec says nothing changes. -/
  | invalidStepWhileFaulted
  /-- Raised by `load` when the data does not fit (R57, R244). Safe: the spec says nothing is written. -/
  | outOfRange
  deriving DecidableEq, Repr

/-- Why there is no meaning. -/
inductive Refusal where
  /-- Raised by `exec` for an instruction of the table that has no meaning yet; none is left. Safe: it stops. -/
  | notModelled (mnemonic : String)
  deriving DecidableEq, Repr

/-- What a meaning, a step or a host operation answers. -/
abbrev Result := Host.Outcome State Fault Refusal

/-- The five results of `step()` (R232). -/
inductive StepResult where
  | okRunning
  | okHalted
  | fault (reason : FaultReason)
  | error (e : Fault)
  deriving DecidableEq, Repr

/-- The parameters at R6's defaults (log entries 3, 4, 7). -/
def Params.initial : Params :=
  { unimplSet := Config.unimplSetDefault
    resetMemoryByte := Config.resetMemoryByteDefault
    defaultPortRead := Config.defaultPortReadDefault }

/-- The inputs and outputs with nothing known of them: a handler whose answers are all free, no event, no interrupt
request (R6's defaults; log entries 4 to 6). -/
def Env.initial : Env :=
  { handler := .injected [], portReads := 0, portWrites := [], irqInput := [] }

/-- The machine right after reset, with R6's defaults (R46, R260): no byte is listed, so every byte holds
RESET_MEMORY_BYTE. -/
def State.reset : State :=
  { regs := { a := 0, b := 0, c := 0, d := 0, e := 0, h := 0, l := 0 }
    flags := { z := false, s := false, p := false, cy := false, ac := false }
    pc := 0
    sp := 0
    ie := false
    run := .running
    mem := []
    params := Params.initial
    env := Env.initial }

end Sys2Proof.Machine
end

