-- ==== Sys2Proof/Machine/Ops.lean ====
section
/-! DEFINITION. The named operations over memory, registers, the stack, the ports and the control state, exception entry
and return, the fetch, and the host's load and reset. -/

namespace Sys2Proof.Machine

/-! Memory (20_memory.md): the bytes that differ from RESET_MEMORY_BYTE, which is `fill` here, by rising address. -/

/-- The byte the list gives to an address; an address it does not name holds RESET_MEMORY_BYTE (R50). -/
def Memory.lookup (fill : Byte) : Memory → Nat → Byte
  | [], _ => fill
  | (k, v) :: rest, n => if n = k then v else Memory.lookup fill rest n

/-- The list without an address. -/
def Memory.erase : Memory → Nat → Memory
  | [], _ => []
  | (k, v) :: rest, n => if n = k then Memory.erase rest n else (k, v) :: Memory.erase rest n

/-- The list with a byte at an address, in its place by rising address. -/
def Memory.put : Memory → Nat → Byte → Memory
  | [], n, v => [(n, v)]
  | (k, w) :: rest, n, v =>
    if n < k then (n, v) :: (k, w) :: rest
    else if n = k then (n, v) :: rest
    else (k, w) :: Memory.put rest n v

/-- `MemRead(addr, 1)` (R52). -/
def Memory.read (fill : Byte) (m : Memory) (a : Addr) : Byte := Memory.lookup fill m a.toNat

/-- `MemWrite(addr, 1, v)` (R53). The value an unlisted address reads as leaves no entry. -/
def Memory.write (fill : Byte) (m : Memory) (a : Addr) (v : Byte) : Memory :=
  if v = fill then Memory.erase m a.toNat else Memory.put m a.toNat v

/-- The canonical form from an address on: addresses strictly rising and inside the space, no entry equal to what an
unlisted address reads as. -/
def Memory.wfFrom (fill : Byte) : Nat → Memory → Bool
  | _, [] => true
  | lo, (k, v) :: rest =>
    decide (lo ≤ k) && decide (k < Config.memorySize) && decide (v ≠ fill) && Memory.wfFrom fill (k + 1) rest

/-- The canonical form of a memory: equal memories are equal lists (log entry 8). -/
def Memory.wf (fill : Byte) (m : Memory) : Bool := Memory.wfFrom fill 0 m

/-- Several bytes from an address on. -/
def Memory.writeBytes (fill : Byte) : Memory → Nat → List Byte → Memory
  | m, _, [] => m
  | m, n, v :: rest => Memory.writeBytes fill (Memory.write fill m (BitVec.ofNat 16 n) v) (n + 1) rest

/-! Registers (10_state.md R21). -/

/-- Reading a register (R21). -/
def Regs.get (g : Regs) : Reg → Byte
  | .a => g.a
  | .b => g.b
  | .c => g.c
  | .d => g.d
  | .e => g.e
  | .h => g.h
  | .l => g.l

/-- Writing a register (R21). -/
def Regs.set (g : Regs) (r : Reg) (v : Byte) : Regs :=
  match r with
  | .a => { g with a := v }
  | .b => { g with b := v }
  | .c => { g with c := v }
  | .d => { g with d := v }
  | .e => { g with e := v }
  | .h => { g with h := v }
  | .l => { g with l := v }

/-! One setter for each field of the state. -/

def State.setRegs (s : State) (v : Regs) : State := { s with regs := v }
def State.setFlags (s : State) (v : Flags) : State := { s with flags := v }
/-- `PC <- target` (R9). -/
def State.setPc (s : State) (v : Addr) : State := { s with pc := v }
def State.setSp (s : State) (v : Addr) : State := { s with sp := v }
def State.setIe (s : State) (v : Bool) : State := { s with ie := v }
def State.setRun (s : State) (v : RunState) : State := { s with run := v }
def State.setMem (s : State) (v : Memory) : State := { s with mem := v }
def State.setParams (s : State) (v : Params) : State := { s with params := v }
def State.setEnv (s : State) (v : Env) : State := { s with env := v }

/-- `r <- v` (R9). -/
def State.setReg (s : State) (r : Reg) (v : Byte) : State := s.setRegs (s.regs.set r v)

/-- `next(n)` (R9): PC past an instruction of `n` bytes, modulo 2^16 (R26, R27). -/
def State.advance (s : State) (n : Nat) : State := s.setPc (s.pc + BitVec.ofNat 16 n)

/-! Memory accesses of the core. -/

def State.readByte (s : State) (a : Addr) : Byte := Memory.read s.params.resetMemoryByte s.mem a

def State.writeByte (s : State) (a : Addr) (v : Byte) : State :=
  s.setMem (Memory.write s.params.resetMemoryByte s.mem a v)

/-- `MemRead(addr, 2)` (R54); the second byte of an access at 0xFFFF is at 0x0000 (R56). -/
def State.readWord (s : State) (a : Addr) : Addr := word16 (s.readByte (a + 1)) (s.readByte a)

/-- `MemWrite(addr, 2, v)` (R55, R56). -/
def State.writeWord (s : State) (a : Addr) (v : Addr) : State :=
  (s.writeByte a (loByte v)).writeByte (a + 1) (hiByte v)

/-! The stack (43_stack.md). -/

/-- `push16(v)` (R180): the high byte at SP-1, the low byte at SP-2, then SP down by 2. -/
def State.push16 (s : State) (v : Addr) : State :=
  ((s.writeByte (s.sp - 1) (hiByte v)).writeByte (s.sp - 2) (loByte v)).setSp (s.sp - 2)

/-- The value `pop16()` returns (R181). -/
def State.stackTop (s : State) : Addr := word16 (s.readByte (s.sp + 1)) (s.readByte s.sp)

/-- The state `pop16()` leaves (R181). -/
def State.dropTop (s : State) : State := s.setSp (s.sp + 2)

/-! Entry and return. CALL, RST and interrupt acceptance push the same frame (R198). -/

/-- Push a return address and go to a target (R193, R224, R238). -/
def State.enterAt (s : State) (ret target : Addr) : State := (s.push16 ret).setPc target

/-- TAKING AN INTERRUPT (R238): PC is saved on the stack, PC becomes the target, IE is cleared, and nothing else changes. -/
def State.acceptInterrupt (s : State) (target : Addr) : State := (s.enterAt s.pc target).setIe false

/-- The return, from a handler as from a call: `PC <- pop16()` and nothing else (R195, R247). -/
def State.returnPop (s : State) : State := s.dropTop.setPc s.stackTop

/-- THE SYNCHRONOUS FAULT (R243): `RUN <- Faulted(UnimplementedOpcode(op, PC))` and nothing else (log entry 1). -/
def State.raiseUnimplemented (s : State) (op : Byte) : State :=
  s.setRun (.faulted (.unimplementedOpcode op s.pc))

/-- Whether a request presented now is taken: RUN is Running and IE is 1 (R238, R239). -/
def State.takesInterrupt (s : State) : Bool :=
  match s.run with
  | .running => s.ie
  | .halted => false
  | .faulted _ => false

/-! The ports (R60, R220, R221). -/

/-- The byte the handler answers to a read of a port, and the handler afterwards. The shipped one answers `dflt`. -/
def PortHandler.answer (h : PortHandler) (dflt : Byte) (n : Nat) (port : Byte) : Byte × PortHandler :=
  match h with
  | .shipped => (dflt, .shipped)
  | .injected [] => (Config.freePortRead n port, .injected [])
  | .injected (v :: rest) => (v, .injected rest)

/-- What the handler answers to a read of a port now (R220). -/
def State.portAnswer (s : State) (port : Byte) : Byte × PortHandler :=
  s.env.handler.answer s.params.defaultPortRead s.env.portReads port

/-- The value of `PortRead(port)` (R220). -/
def State.portValue (s : State) (port : Byte) : Byte := (s.portAnswer port).1

/-- The read of a port happened: the handler has answered, and one more read is counted (R63, log entry 4). -/
def State.portReadDone (s : State) (port : Byte) : State :=
  s.setEnv { s.env with
    handler := (s.portAnswer port).2
    portReads := s.env.portReads + 1 }

/-- `PortWrite(port, v)`: one output event, which the shipped handler drops (R221, log entry 5). -/
def State.portWrite (s : State) (port v : Byte) : State :=
  match s.env.handler with
  | .shipped => s
  | .injected _ => s.setEnv { s.env with portWrites := s.env.portWrites ++ [{ port := port, value := v }] }

/-! The fetch (R25, R230). -/

/-- The opcode byte of the next instruction: action 1 of `step()`. -/
def State.opcode (s : State) : Byte := s.readByte s.pc

/-- Its entry of the decode table: action 2 of `step()`. -/
def State.entry (s : State) : TableEntry := decodeTable s.params.unimplSet s.opcode

/-- The instruction at PC with its operand bytes, which wrap past 0xFFFF (R27, R83). A read of a byte the instruction
does not have has no effect (R63). -/
def State.fetched (s : State) : Instr := decodeOp s.opcode (s.readByte (s.pc + 1)) (s.readByte (s.pc + 2))

/-- IrqInput after this boundary's presentation is used up (R236, R237). -/
def State.setIrqInput (s : State) (rest : List (Option Addr)) : State :=
  s.setEnv { s.env with irqInput := rest }

/-! The host's operations at a step boundary (R7). -/

/-- `interrupt(target)` (R236 to R239): taken when it can be, else nothing changes and the request is lost. -/
def State.interrupt (s : State) (target : Addr) : State :=
  if s.takesInterrupt then s.acceptInterrupt target else s

/-- `load(bytes, offset)` (R57, R244): all of the data, or OutOfRange and nothing. -/
def State.load (s : State) (seg : Segment) : Result :=
  if seg.wellFormed then
    .next (s.setMem (Memory.writeBytes s.params.resetMemoryByte s.mem seg.offset seg.bytes))
  else .fault .outOfRange

/-- A sequence of loads, up to the first that fails (R264). -/
def State.loadAll (s : State) : Image → Result
  | [] => .next s
  | seg :: rest =>
    match s.load seg with
    | .next t => State.loadAll t rest
    | .fault e => .fault e
    | .refused r => .refused r

/-- The machine right after reset, for any value of the parameters of R6. -/
def State.resetWith (params : Params) (env : Env) : State := { State.reset with params := params, env := env }

/-- `reset()` (R260): every piece of the block's state at its reset value; the parameters and everything the host owns
stay as they are (R260, R266). -/
def State.resetBlock (s : State) : State := State.resetWith s.params s.env

/-- The launch state of a machine with a program in place: "reset, then LoadImage" (R263), for any parameters. -/
def State.launch (params : Params) (env : Env) (image : Image) : Result := (State.resetWith params env).loadAll image

end Sys2Proof.Machine
end

