-- ==== Sys2Proof/Machine/Operands.lean ====
section
/-! DEFINITION. The operand forms (30_encoding.md R86 to R88, 40_data_transfer.md "Addressing modes", 42_alu.md R143). -/

namespace Sys2Proof.Machine

/-- BC (R22). -/
def State.bc (s : State) : Addr := word16 s.regs.b s.regs.c
/-- DE (R22). -/
def State.de (s : State) : Addr := word16 s.regs.d s.regs.e
/-- HL (R22), the address of operand `M` (R86). -/
def State.hl (s : State) : Addr := word16 s.regs.h s.regs.l

/-- Writing a word into two registers, the high byte into the first (R22). -/
def State.setTwo (s : State) (hi lo : Reg) (v : Addr) : State := (s.setReg hi (hiByte v)).setReg lo (loByte v)

/-- `BC <- v` (R9). -/
def State.setBc (s : State) (v : Addr) : State := s.setTwo .b .c v
/-- `DE <- v` (R9). -/
def State.setDe (s : State) (v : Addr) : State := s.setTwo .d .e v
/-- `HL <- v` (R9). -/
def State.setHl (s : State) (v : Addr) : State := s.setTwo .h .l v

/-- `rp16[pp]` as a source (R87). -/
def State.getPair (s : State) : Pair → Addr
  | .bc => s.bc
  | .de => s.de
  | .hl => s.hl
  | .sp => s.sp

/-- `rp16[pp] <- v` (R87). -/
def State.setPair (s : State) (p : Pair) (v : Addr) : State :=
  match p with
  | .bc => s.setBc v
  | .de => s.setDe v
  | .hl => s.setHl v
  | .sp => s.setSp v

/-- The pair of PUSH and POP as a pair of registers (R87). -/
def pairOf : StackPair → Pair
  | .bc => .bc
  | .de => .de
  | .hl => .hl

/-- The address of LDAX and STAX (R87, R121, R122). -/
def State.indAddr (s : State) : IndPair → Addr
  | .bc => s.bc
  | .de => s.de

/-- Operand `M` as a source: the byte at HL (R86). -/
def State.readM (s : State) : Byte := s.readByte s.hl

/-- Operand `M` as a destination: the byte at HL (R86). -/
def State.writeM (s : State) (v : Byte) : State := s.writeByte s.hl v

/-- `cond(ccc)` (R88, R190). -/
def condHolds (cond : Cond) (f : Flags) : Bool :=
  match cond with
  | .nz => !f.z
  | .z => f.z
  | .nc => !f.cy
  | .c => f.cy
  | .po => !f.p
  | .pe => f.p
  | .p => !f.s
  | .m => f.s

end Sys2Proof.Machine
end

