-- ==== Sys2Proof/Machine/Flags.lean ====
section
/-! DEFINITION. The flag engine (10_state.md R30 to R34, R37), the PSW byte (R38), and the ALU helper functions
(42_alu.md R140 to R142). -/

namespace Sys2Proof.Machine

/-- `zeroFlag(result, width)` (R30). -/
def zeroFlag (result width : Nat) : Bool := decide (result % 2 ^ width = 0)

/-- `signFlag(result)`: bit 7 of the 8-bit result (R31). -/
def signFlag (result : Byte) : Bool := result.getLsbD 7

/-- How many of the low `width` bits are set. -/
def onesCount : Nat → Nat → Nat
  | 0, _ => 0
  | width + 1, n => n % 2 + onesCount width (n / 2)

/-- `parityFlag(result, width)`: the number of set bits is even (R32). -/
def parityFlag (result width : Nat) : Bool := decide (onesCount width result % 2 = 0)

/-- `carryFlag` after an addition: the unsigned result exceeds `width` bits (R33). -/
def carryFlagAdd (result width : Nat) : Bool := decide (2 ^ width - 1 < result)

/-- `carryFlag` after a subtraction or comparison: the minuend is smaller than the subtrahend (R33). -/
def carryFlagSub (minuend subtrahend : Nat) : Bool := decide (minuend < subtrahend)

/-- The low four bits, `v[3:0]`. -/
def lowNibble (v : Byte) : Nat := v.toNat % 16

/-- The high four bits, `v[7:4]`. -/
def highNibble (v : Byte) : Nat := v.toNat / 16

/-- AC of an addition: the carry out of bit 3 (R34 a). -/
def auxCarryAdd (a b : Byte) (c : Nat) : Bool := decide (0xF < lowNibble a + lowNibble b + c)

/-- AC of a subtraction with borrow-in `c`: the carry out of bit 3 of `a + NOT b + (1 - c)`, so 1 when bit 4 lends no
borrow (R34 b). -/
def auxCarrySub (a b : Byte) (c : Nat) : Bool := decide (0xF < lowNibble a + (0xF - lowNibble b) + (1 - c))

/-- `setZSP(res)` (R37): Z, S and P from an 8-bit result. -/
def Flags.setZSP (f : Flags) (res : Byte) : Flags :=
  { f with z := zeroFlag res.toNat 8, s := signFlag res, p := parityFlag res.toNat 8 }

/-- What an ALU function returns and the flags it leaves. -/
structure AluOut where
  val : Byte
  flags : Flags
  deriving DecidableEq, Repr

/-- `add8(a, b, c)` (R140). All five flags are written, so `f` only gives a record to write into. -/
def add8 (a b : Byte) (c : Bool) (f : Flags) : AluOut :=
  let res := a.toNat + b.toNat + c.toNat
  { val := BitVec.ofNat 8 res
    flags := { f.setZSP (BitVec.ofNat 8 res) with cy := carryFlagAdd res 8, ac := auxCarryAdd a b c.toNat } }

/-- `sub8(a, b, c)` (R141). The result is `a - b - c` on the integers, cut to 8 bits. -/
def sub8 (a b : Byte) (c : Bool) (f : Flags) : AluOut :=
  let res := BitVec.ofInt 8 ((a.toNat : Int) - (b.toNat : Int) - (c.toNat : Int))
  { val := res
    flags := { f.setZSP res with
      cy := carryFlagSub a.toNat (b.toNat + c.toNat)
      ac := auxCarrySub a b c.toNat } }

/-- `logic8(AND, a, b)` (R142): CY cleared, AC the OR of bit 3 of the operands (R34 c). -/
def and8 (a b : Byte) (f : Flags) : AluOut :=
  { val := a &&& b
    flags := { f.setZSP (a &&& b) with cy := false, ac := a.getLsbD 3 || b.getLsbD 3 } }

/-- `logic8(XOR, a, b)` (R142): CY and AC cleared (R34 d). -/
def xor8 (a b : Byte) (f : Flags) : AluOut :=
  { val := a ^^^ b
    flags := { f.setZSP (a ^^^ b) with cy := false, ac := false } }

/-- `logic8(OR, a, b)` (R142): CY and AC cleared (R34 d). -/
def or8 (a b : Byte) (f : Flags) : AluOut :=
  { val := a ||| b
    flags := { f.setZSP (a ||| b) with cy := false, ac := false } }

/-- The increment (R168): CY unchanged. -/
def inc8 (a : Byte) (f : Flags) : AluOut :=
  let res := BitVec.ofNat 8 (a.toNat + 1)
  { val := res
    flags := { f.setZSP res with ac := auxCarryAdd a 1 0 } }

/-- The decrement (R170): CY unchanged. -/
def dec8 (a : Byte) (f : Flags) : AluOut :=
  let res := BitVec.ofInt 8 ((a.toNat : Int) - 1)
  { val := res
    flags := { f.setZSP res with ac := auxCarrySub a 1 0 } }

/-- The decimal adjust (R174): `corr` is what is added to A, and CY is never cleared. -/
def daa8 (a : Byte) (f : Flags) : AluOut :=
  let lo := lowNibble a
  let hi := highNibble a
  let low := f.ac || decide (9 < lo)
  let high := f.cy || decide (9 < hi) || (decide (9 ≤ hi) && decide (9 < lo))
  let corr := (if low then 0x06 else 0) + (if high then 0x60 else 0)
  let res := BitVec.ofNat 8 (a.toNat + corr)
  { val := res
    flags := { f.setZSP res with
      cy := f.cy || high
      ac := decide (0xF < lo + corr % 16) } }

/-- `pswByte() = S*128 + Z*64 + AC*16 + P*4 + 2 + CY` (R38). -/
def Flags.pswByte (f : Flags) : Byte :=
  BitVec.ofNat 8 (f.s.toNat * 128 + f.z.toNat * 64 + f.ac.toNat * 16 + f.p.toNat * 4 + 2 + f.cy.toNat)

/-- The flags of a popped PSW byte; its bits 5, 3 and 1 are ignored (R38, R185). -/
def Flags.ofPswByte (v : Byte) : Flags :=
  { s := v.getLsbD 7, z := v.getLsbD 6, ac := v.getLsbD 4, p := v.getLsbD 2, cy := v.getLsbD 0 }

/-- The four rotates of A (R210 to R213): the new A and the bit shifted out, which is the new CY. -/
def rotate8 (op : RotateOp) (a : Byte) (cy : Bool) : Byte × Bool :=
  match op with
  | .rlc => (BitVec.ofNat 8 (a.toNat * 2 + (a.getLsbD 7).toNat), a.getLsbD 7)
  | .rrc => (BitVec.ofNat 8 (a.toNat / 2 + (a.getLsbD 0).toNat * 128), a.getLsbD 0)
  | .ral => (BitVec.ofNat 8 (a.toNat * 2 + cy.toNat), a.getLsbD 7)
  | .rar => (BitVec.ofNat 8 (a.toNat / 2 + cy.toNat * 128), a.getLsbD 0)

end Sys2Proof.Machine
end

