-- ==== Sys2Proof/Machine/Alu.lean ====
section
/-! DEFINITION. The ALU instructions (42_alu.md). -/

namespace Sys2Proof.Machine

/-- The ALU operation `aaa` on A and the operand `v` (R143). A compare discards the result (R165). -/
def aluApply (op : AluOp) (v : Byte) (s : State) : State :=
  let intoA (out : AluOut) : State := (s.setReg .a out.val).setFlags out.flags
  match op with
  | .add => intoA (add8 s.regs.a v false s.flags)
  | .adc => intoA (add8 s.regs.a v s.flags.cy s.flags)
  | .sub => intoA (sub8 s.regs.a v false s.flags)
  | .sbb => intoA (sub8 s.regs.a v s.flags.cy s.flags)
  | .ana => intoA (and8 s.regs.a v s.flags)
  | .xra => intoA (xor8 s.regs.a v s.flags)
  | .ora => intoA (or8 s.regs.a v s.flags)
  | .cmp => s.setFlags (sub8 s.regs.a v false s.flags).flags

/-- The forms with a register operand (R143, R144 to R165). -/
def aluRegister (op : AluOp) (src : Reg) (s : State) : Result := .next ((aluApply op (s.regs.get src) s).advance 1)

/-- The forms with operand `M` (R143, R145 to R166). -/
def aluMemory (op : AluOp) (s : State) : Result := .next ((aluApply op s.readM s).advance 1)

/-- The forms with an immediate operand (R143, R146 to R167). -/
def aluImmediate (op : AluOp) (d8 : Byte) (s : State) : Result := .next ((aluApply op d8 s).advance 2)

/-- `INR r` (R168). -/
def incrementRegister (r : Reg) (s : State) : Result :=
  let out := inc8 (s.regs.get r) s.flags
  .next (((s.setReg r out.val).setFlags out.flags).advance 1)

/-- `INR M` (R169). -/
def incrementMemory (s : State) : Result :=
  let out := inc8 s.readM s.flags
  .next (((s.writeM out.val).setFlags out.flags).advance 1)

/-- `DCR r` (R170). -/
def decrementRegister (r : Reg) (s : State) : Result :=
  let out := dec8 (s.regs.get r) s.flags
  .next (((s.setReg r out.val).setFlags out.flags).advance 1)

/-- `DCR M` (R171). -/
def decrementMemory (s : State) : Result :=
  let out := dec8 s.readM s.flags
  .next (((s.writeM out.val).setFlags out.flags).advance 1)

/-- `DAA` (R174). -/
def decimalAdjust (s : State) : Result :=
  let out := daa8 s.regs.a s.flags
  .next (((s.setReg .a out.val).setFlags out.flags).advance 1)

/-- `CMA` (R175): no flag. -/
def complementAcc (s : State) : Result := .next ((s.setReg .a (s.regs.a ^^^ 0xFF)).advance 1)

/-- `STC` (R176). -/
def setCarry (s : State) : Result := .next ((s.setFlags { s.flags with cy := true }).advance 1)

/-- `CMC` (R177). -/
def complementCarry (s : State) : Result := .next ((s.setFlags { s.flags with cy := !s.flags.cy }).advance 1)

/-! One definition for each instruction. -/

/-- `ADD B` (R144). -/
def execAddB (s : State) : Result := aluRegister .add .b s
/-- `ADD C` (R144). -/
def execAddC (s : State) : Result := aluRegister .add .c s
/-- `ADD D` (R144). -/
def execAddD (s : State) : Result := aluRegister .add .d s
/-- `ADD E` (R144). -/
def execAddE (s : State) : Result := aluRegister .add .e s
/-- `ADD H` (R144). -/
def execAddH (s : State) : Result := aluRegister .add .h s
/-- `ADD L` (R144). -/
def execAddL (s : State) : Result := aluRegister .add .l s
/-- `ADD A` (R144). -/
def execAddA (s : State) : Result := aluRegister .add .a s
/-- `ADC B` (R147). -/
def execAdcB (s : State) : Result := aluRegister .adc .b s
/-- `ADC C` (R147). -/
def execAdcC (s : State) : Result := aluRegister .adc .c s
/-- `ADC D` (R147). -/
def execAdcD (s : State) : Result := aluRegister .adc .d s
/-- `ADC E` (R147). -/
def execAdcE (s : State) : Result := aluRegister .adc .e s
/-- `ADC H` (R147). -/
def execAdcH (s : State) : Result := aluRegister .adc .h s
/-- `ADC L` (R147). -/
def execAdcL (s : State) : Result := aluRegister .adc .l s
/-- `ADC A` (R147). -/
def execAdcA (s : State) : Result := aluRegister .adc .a s
/-- `SUB B` (R150). -/
def execSubB (s : State) : Result := aluRegister .sub .b s
/-- `SUB C` (R150). -/
def execSubC (s : State) : Result := aluRegister .sub .c s
/-- `SUB D` (R150). -/
def execSubD (s : State) : Result := aluRegister .sub .d s
/-- `SUB E` (R150). -/
def execSubE (s : State) : Result := aluRegister .sub .e s
/-- `SUB H` (R150). -/
def execSubH (s : State) : Result := aluRegister .sub .h s
/-- `SUB L` (R150). -/
def execSubL (s : State) : Result := aluRegister .sub .l s
/-- `SUB A` (R150). -/
def execSubA (s : State) : Result := aluRegister .sub .a s
/-- `SBB B` (R153). -/
def execSbbB (s : State) : Result := aluRegister .sbb .b s
/-- `SBB C` (R153). -/
def execSbbC (s : State) : Result := aluRegister .sbb .c s
/-- `SBB D` (R153). -/
def execSbbD (s : State) : Result := aluRegister .sbb .d s
/-- `SBB E` (R153). -/
def execSbbE (s : State) : Result := aluRegister .sbb .e s
/-- `SBB H` (R153). -/
def execSbbH (s : State) : Result := aluRegister .sbb .h s
/-- `SBB L` (R153). -/
def execSbbL (s : State) : Result := aluRegister .sbb .l s
/-- `SBB A` (R153). -/
def execSbbA (s : State) : Result := aluRegister .sbb .a s
/-- `ANA B` (R156). -/
def execAnaB (s : State) : Result := aluRegister .ana .b s
/-- `ANA C` (R156). -/
def execAnaC (s : State) : Result := aluRegister .ana .c s
/-- `ANA D` (R156). -/
def execAnaD (s : State) : Result := aluRegister .ana .d s
/-- `ANA E` (R156). -/
def execAnaE (s : State) : Result := aluRegister .ana .e s
/-- `ANA H` (R156). -/
def execAnaH (s : State) : Result := aluRegister .ana .h s
/-- `ANA L` (R156). -/
def execAnaL (s : State) : Result := aluRegister .ana .l s
/-- `ANA A` (R156). -/
def execAnaA (s : State) : Result := aluRegister .ana .a s
/-- `XRA B` (R159). -/
def execXraB (s : State) : Result := aluRegister .xra .b s
/-- `XRA C` (R159). -/
def execXraC (s : State) : Result := aluRegister .xra .c s
/-- `XRA D` (R159). -/
def execXraD (s : State) : Result := aluRegister .xra .d s
/-- `XRA E` (R159). -/
def execXraE (s : State) : Result := aluRegister .xra .e s
/-- `XRA H` (R159). -/
def execXraH (s : State) : Result := aluRegister .xra .h s
/-- `XRA L` (R159). -/
def execXraL (s : State) : Result := aluRegister .xra .l s
/-- `XRA A` (R159). -/
def execXraA (s : State) : Result := aluRegister .xra .a s
/-- `ORA B` (R162). -/
def execOraB (s : State) : Result := aluRegister .ora .b s
/-- `ORA C` (R162). -/
def execOraC (s : State) : Result := aluRegister .ora .c s
/-- `ORA D` (R162). -/
def execOraD (s : State) : Result := aluRegister .ora .d s
/-- `ORA E` (R162). -/
def execOraE (s : State) : Result := aluRegister .ora .e s
/-- `ORA H` (R162). -/
def execOraH (s : State) : Result := aluRegister .ora .h s
/-- `ORA L` (R162). -/
def execOraL (s : State) : Result := aluRegister .ora .l s
/-- `ORA A` (R162). -/
def execOraA (s : State) : Result := aluRegister .ora .a s
/-- `CMP B` (R165). -/
def execCmpB (s : State) : Result := aluRegister .cmp .b s
/-- `CMP C` (R165). -/
def execCmpC (s : State) : Result := aluRegister .cmp .c s
/-- `CMP D` (R165). -/
def execCmpD (s : State) : Result := aluRegister .cmp .d s
/-- `CMP E` (R165). -/
def execCmpE (s : State) : Result := aluRegister .cmp .e s
/-- `CMP H` (R165). -/
def execCmpH (s : State) : Result := aluRegister .cmp .h s
/-- `CMP L` (R165). -/
def execCmpL (s : State) : Result := aluRegister .cmp .l s
/-- `CMP A` (R165). -/
def execCmpA (s : State) : Result := aluRegister .cmp .a s
/-- `ADD M` (R145). -/
def execAddM (s : State) : Result := aluMemory .add s
/-- `ADC M` (R148). -/
def execAdcM (s : State) : Result := aluMemory .adc s
/-- `SUB M` (R151). -/
def execSubM (s : State) : Result := aluMemory .sub s
/-- `SBB M` (R154). -/
def execSbbM (s : State) : Result := aluMemory .sbb s
/-- `ANA M` (R157). -/
def execAnaM (s : State) : Result := aluMemory .ana s
/-- `XRA M` (R160). -/
def execXraM (s : State) : Result := aluMemory .xra s
/-- `ORA M` (R163). -/
def execOraM (s : State) : Result := aluMemory .ora s
/-- `CMP M` (R166). -/
def execCmpM (s : State) : Result := aluMemory .cmp s
/-- `ADI d8` (R146). -/
def execAdi (d8 : Byte) (s : State) : Result := aluImmediate .add d8 s
/-- `ACI d8` (R149). -/
def execAci (d8 : Byte) (s : State) : Result := aluImmediate .adc d8 s
/-- `SUI d8` (R152). -/
def execSui (d8 : Byte) (s : State) : Result := aluImmediate .sub d8 s
/-- `SBI d8` (R155). -/
def execSbi (d8 : Byte) (s : State) : Result := aluImmediate .sbb d8 s
/-- `ANI d8` (R158). -/
def execAni (d8 : Byte) (s : State) : Result := aluImmediate .ana d8 s
/-- `XRI d8` (R161). -/
def execXri (d8 : Byte) (s : State) : Result := aluImmediate .xra d8 s
/-- `ORI d8` (R164). -/
def execOri (d8 : Byte) (s : State) : Result := aluImmediate .ora d8 s
/-- `CPI d8` (R167). -/
def execCpi (d8 : Byte) (s : State) : Result := aluImmediate .cmp d8 s
/-- `INR B` (R168). -/
def execInrB (s : State) : Result := incrementRegister .b s
/-- `INR C` (R168). -/
def execInrC (s : State) : Result := incrementRegister .c s
/-- `INR D` (R168). -/
def execInrD (s : State) : Result := incrementRegister .d s
/-- `INR E` (R168). -/
def execInrE (s : State) : Result := incrementRegister .e s
/-- `INR H` (R168). -/
def execInrH (s : State) : Result := incrementRegister .h s
/-- `INR L` (R168). -/
def execInrL (s : State) : Result := incrementRegister .l s
/-- `INR A` (R168). -/
def execInrA (s : State) : Result := incrementRegister .a s
/-- `INR M` (R169). -/
def execInrM (s : State) : Result := incrementMemory s
/-- `DCR B` (R170). -/
def execDcrB (s : State) : Result := decrementRegister .b s
/-- `DCR C` (R170). -/
def execDcrC (s : State) : Result := decrementRegister .c s
/-- `DCR D` (R170). -/
def execDcrD (s : State) : Result := decrementRegister .d s
/-- `DCR E` (R170). -/
def execDcrE (s : State) : Result := decrementRegister .e s
/-- `DCR H` (R170). -/
def execDcrH (s : State) : Result := decrementRegister .h s
/-- `DCR L` (R170). -/
def execDcrL (s : State) : Result := decrementRegister .l s
/-- `DCR A` (R170). -/
def execDcrA (s : State) : Result := decrementRegister .a s
/-- `DCR M` (R171). -/
def execDcrM (s : State) : Result := decrementMemory s
/-- `DAA` (R174). -/
def execDaa (s : State) : Result := decimalAdjust s
/-- `CMA` (R175). -/
def execCma (s : State) : Result := complementAcc s
/-- `STC` (R176). -/
def execStc (s : State) : Result := setCarry s
/-- `CMC` (R177). -/
def execCmc (s : State) : Result := complementCarry s

end Sys2Proof.Machine
end

