-- ==== Sys2Proof/Machine/ControlTransfer.lean ====
section
/-! DEFINITION. Jumps, calls and returns (44_control_transfer.md). No flag is written. -/

namespace Sys2Proof.Machine

/-- `JMP a16` and its alias (R191). -/
def jump (a16 : Addr) (s : State) : Result := .next (s.setPc a16)

/-- `Jcc a16` (R192). -/
def conditionalJump (cond : Cond) (a16 : Addr) (s : State) : Result :=
  if condHolds cond s.flags then .next (s.setPc a16) else .next (s.advance 3)

/-- `PCHL` (R197). -/
def jumpHL (s : State) : Result := .next (s.setPc s.hl)

/-- `CALL a16` and its aliases (R193): the return address is that of the instruction after the 3-byte call. -/
def call (a16 : Addr) (s : State) : Result := .next (s.enterAt (s.pc + 3) a16)

/-- `Ccc a16` (R194): nothing is pushed when the condition is false. -/
def conditionalCall (cond : Cond) (a16 : Addr) (s : State) : Result :=
  if condHolds cond s.flags then .next (s.enterAt (s.pc + 3) a16) else .next (s.advance 3)

/-- `RET` and its alias (R195). -/
def returnFromCall (s : State) : Result := .next s.returnPop

/-- `Rcc` (R196): nothing is popped when the condition is false. -/
def conditionalReturn (cond : Cond) (s : State) : Result :=
  if condHolds cond s.flags then .next s.returnPop else .next (s.advance 1)

/-! One definition for each instruction. -/

/-- `JMP a16` (R191). -/
def execJmp (_x : BitVec 1) (a16 : Addr) (s : State) : Result := jump a16 s
/-- `JNZ a16` (R192). -/
def execJnz (a16 : Addr) (s : State) : Result := conditionalJump .nz a16 s
/-- `JZ a16` (R192). -/
def execJz (a16 : Addr) (s : State) : Result := conditionalJump .z a16 s
/-- `JNC a16` (R192). -/
def execJnc (a16 : Addr) (s : State) : Result := conditionalJump .nc a16 s
/-- `JC a16` (R192). -/
def execJc (a16 : Addr) (s : State) : Result := conditionalJump .c a16 s
/-- `JPO a16` (R192). -/
def execJpo (a16 : Addr) (s : State) : Result := conditionalJump .po a16 s
/-- `JPE a16` (R192). -/
def execJpe (a16 : Addr) (s : State) : Result := conditionalJump .pe a16 s
/-- `JP a16` (R192). -/
def execJp (a16 : Addr) (s : State) : Result := conditionalJump .p a16 s
/-- `JM a16` (R192). -/
def execJm (a16 : Addr) (s : State) : Result := conditionalJump .m a16 s
/-- `PCHL` (R197). -/
def execPchl (s : State) : Result := jumpHL s
/-- `CALL a16` (R193). -/
def execCall (_xx : BitVec 2) (a16 : Addr) (s : State) : Result := call a16 s
/-- `CNZ a16` (R194). -/
def execCnz (a16 : Addr) (s : State) : Result := conditionalCall .nz a16 s
/-- `CZ a16` (R194). -/
def execCz (a16 : Addr) (s : State) : Result := conditionalCall .z a16 s
/-- `CNC a16` (R194). -/
def execCnc (a16 : Addr) (s : State) : Result := conditionalCall .nc a16 s
/-- `CC a16` (R194). -/
def execCc (a16 : Addr) (s : State) : Result := conditionalCall .c a16 s
/-- `CPO a16` (R194). -/
def execCpo (a16 : Addr) (s : State) : Result := conditionalCall .po a16 s
/-- `CPE a16` (R194). -/
def execCpe (a16 : Addr) (s : State) : Result := conditionalCall .pe a16 s
/-- `CP a16` (R194). -/
def execCp (a16 : Addr) (s : State) : Result := conditionalCall .p a16 s
/-- `CM a16` (R194). -/
def execCm (a16 : Addr) (s : State) : Result := conditionalCall .m a16 s
/-- `RET` (R195). -/
def execRet (_x : BitVec 1) (s : State) : Result := returnFromCall s
/-- `RNZ` (R196). -/
def execRnz (s : State) : Result := conditionalReturn .nz s
/-- `RZ` (R196). -/
def execRz (s : State) : Result := conditionalReturn .z s
/-- `RNC` (R196). -/
def execRnc (s : State) : Result := conditionalReturn .nc s
/-- `RC` (R196). -/
def execRc (s : State) : Result := conditionalReturn .c s
/-- `RPO` (R196). -/
def execRpo (s : State) : Result := conditionalReturn .po s
/-- `RPE` (R196). -/
def execRpe (s : State) : Result := conditionalReturn .pe s
/-- `RP` (R196). -/
def execRp (s : State) : Result := conditionalReturn .p s
/-- `RM` (R196). -/
def execRm (s : State) : Result := conditionalReturn .m s

end Sys2Proof.Machine
end

