-- ==== Sys2Proof/Machine/DataTransfer.lean ====
section
/-! DEFINITION. Data transfer (40_data_transfer.md): no-op, immediate loads, moves, memory loads and stores. No flag is read or
written; each meaning ends with `next(length)`. -/

namespace Sys2Proof.Machine

/-- `NOP` and its aliases (R110). -/
def noOp (s : State) : Result := .next (s.advance 1)

/-- `MVI r,d8` (R111). -/
def moveImmediate (r : Reg) (d8 : Byte) (s : State) : Result := .next ((s.setReg r d8).advance 2)

/-- `MVI M,d8` (R112). -/
def moveImmediateToMemory (d8 : Byte) (s : State) : Result := .next ((s.writeM d8).advance 2)

/-- `LXI rp,d16` (R113). -/
def loadPairImmediate (p : Pair) (d16 : Addr) (s : State) : Result := .next ((s.setPair p d16).advance 3)

/-- `MOV r1,r2` (R114). -/
def moveRegister (dst src : Reg) (s : State) : Result := .next ((s.setReg dst (s.regs.get src)).advance 1)

/-- `MOV r,M` (R115). -/
def moveFromMemory (dst : Reg) (s : State) : Result := .next ((s.setReg dst s.readM).advance 1)

/-- `MOV M,r` (R116). -/
def moveToMemory (src : Reg) (s : State) : Result := .next ((s.writeM (s.regs.get src)).advance 1)

/-- `LDA a16` (R117). -/
def loadAccDirect (a16 : Addr) (s : State) : Result := .next ((s.setReg .a (s.readByte a16)).advance 3)

/-- `STA a16` (R118). -/
def storeAccDirect (a16 : Addr) (s : State) : Result := .next ((s.writeByte a16 s.regs.a).advance 3)

/-- `LHLD a16` (R119). -/
def loadHLDirect (a16 : Addr) (s : State) : Result := .next ((s.setHl (s.readWord a16)).advance 3)

/-- `SHLD a16` (R120). -/
def storeHLDirect (a16 : Addr) (s : State) : Result := .next ((s.writeWord a16 s.hl).advance 3)

/-- `LDAX rp` (R121). -/
def loadAccIndirect (p : IndPair) (s : State) : Result := .next ((s.setReg .a (s.readByte (s.indAddr p))).advance 1)

/-- `STAX rp` (R122). -/
def storeAccIndirect (p : IndPair) (s : State) : Result := .next ((s.writeByte (s.indAddr p) s.regs.a).advance 1)

/-! One definition for each instruction. -/

/-- `NOP` (R110). -/
def execNop (_nnn : BitVec 3) (s : State) : Result := noOp s
/-- `MVI B,d8` (R111). -/
def execMviB (d8 : Byte) (s : State) : Result := moveImmediate .b d8 s
/-- `MVI C,d8` (R111). -/
def execMviC (d8 : Byte) (s : State) : Result := moveImmediate .c d8 s
/-- `MVI D,d8` (R111). -/
def execMviD (d8 : Byte) (s : State) : Result := moveImmediate .d d8 s
/-- `MVI E,d8` (R111). -/
def execMviE (d8 : Byte) (s : State) : Result := moveImmediate .e d8 s
/-- `MVI H,d8` (R111). -/
def execMviH (d8 : Byte) (s : State) : Result := moveImmediate .h d8 s
/-- `MVI L,d8` (R111). -/
def execMviL (d8 : Byte) (s : State) : Result := moveImmediate .l d8 s
/-- `MVI A,d8` (R111). -/
def execMviA (d8 : Byte) (s : State) : Result := moveImmediate .a d8 s
/-- `MVI M,d8` (R112). -/
def execMviM (d8 : Byte) (s : State) : Result := moveImmediateToMemory d8 s
/-- `LXI B,d16` (R113). -/
def execLxiB (d16 : Addr) (s : State) : Result := loadPairImmediate .bc d16 s
/-- `LXI D,d16` (R113). -/
def execLxiD (d16 : Addr) (s : State) : Result := loadPairImmediate .de d16 s
/-- `LXI H,d16` (R113). -/
def execLxiH (d16 : Addr) (s : State) : Result := loadPairImmediate .hl d16 s
/-- `LXI SP,d16` (R113). -/
def execLxiSP (d16 : Addr) (s : State) : Result := loadPairImmediate .sp d16 s
/-- `MOV B,B` (R114). -/
def execMovBB (s : State) : Result := moveRegister .b .b s
/-- `MOV B,C` (R114). -/
def execMovBC (s : State) : Result := moveRegister .b .c s
/-- `MOV B,D` (R114). -/
def execMovBD (s : State) : Result := moveRegister .b .d s
/-- `MOV B,E` (R114). -/
def execMovBE (s : State) : Result := moveRegister .b .e s
/-- `MOV B,H` (R114). -/
def execMovBH (s : State) : Result := moveRegister .b .h s
/-- `MOV B,L` (R114). -/
def execMovBL (s : State) : Result := moveRegister .b .l s
/-- `MOV B,A` (R114). -/
def execMovBA (s : State) : Result := moveRegister .b .a s
/-- `MOV C,B` (R114). -/
def execMovCB (s : State) : Result := moveRegister .c .b s
/-- `MOV C,C` (R114). -/
def execMovCC (s : State) : Result := moveRegister .c .c s
/-- `MOV C,D` (R114). -/
def execMovCD (s : State) : Result := moveRegister .c .d s
/-- `MOV C,E` (R114). -/
def execMovCE (s : State) : Result := moveRegister .c .e s
/-- `MOV C,H` (R114). -/
def execMovCH (s : State) : Result := moveRegister .c .h s
/-- `MOV C,L` (R114). -/
def execMovCL (s : State) : Result := moveRegister .c .l s
/-- `MOV C,A` (R114). -/
def execMovCA (s : State) : Result := moveRegister .c .a s
/-- `MOV D,B` (R114). -/
def execMovDB (s : State) : Result := moveRegister .d .b s
/-- `MOV D,C` (R114). -/
def execMovDC (s : State) : Result := moveRegister .d .c s
/-- `MOV D,D` (R114). -/
def execMovDD (s : State) : Result := moveRegister .d .d s
/-- `MOV D,E` (R114). -/
def execMovDE (s : State) : Result := moveRegister .d .e s
/-- `MOV D,H` (R114). -/
def execMovDH (s : State) : Result := moveRegister .d .h s
/-- `MOV D,L` (R114). -/
def execMovDL (s : State) : Result := moveRegister .d .l s
/-- `MOV D,A` (R114). -/
def execMovDA (s : State) : Result := moveRegister .d .a s
/-- `MOV E,B` (R114). -/
def execMovEB (s : State) : Result := moveRegister .e .b s
/-- `MOV E,C` (R114). -/
def execMovEC (s : State) : Result := moveRegister .e .c s
/-- `MOV E,D` (R114). -/
def execMovED (s : State) : Result := moveRegister .e .d s
/-- `MOV E,E` (R114). -/
def execMovEE (s : State) : Result := moveRegister .e .e s
/-- `MOV E,H` (R114). -/
def execMovEH (s : State) : Result := moveRegister .e .h s
/-- `MOV E,L` (R114). -/
def execMovEL (s : State) : Result := moveRegister .e .l s
/-- `MOV E,A` (R114). -/
def execMovEA (s : State) : Result := moveRegister .e .a s
/-- `MOV H,B` (R114). -/
def execMovHB (s : State) : Result := moveRegister .h .b s
/-- `MOV H,C` (R114). -/
def execMovHC (s : State) : Result := moveRegister .h .c s
/-- `MOV H,D` (R114). -/
def execMovHD (s : State) : Result := moveRegister .h .d s
/-- `MOV H,E` (R114). -/
def execMovHE (s : State) : Result := moveRegister .h .e s
/-- `MOV H,H` (R114). -/
def execMovHH (s : State) : Result := moveRegister .h .h s
/-- `MOV H,L` (R114). -/
def execMovHL (s : State) : Result := moveRegister .h .l s
/-- `MOV H,A` (R114). -/
def execMovHA (s : State) : Result := moveRegister .h .a s
/-- `MOV L,B` (R114). -/
def execMovLB (s : State) : Result := moveRegister .l .b s
/-- `MOV L,C` (R114). -/
def execMovLC (s : State) : Result := moveRegister .l .c s
/-- `MOV L,D` (R114). -/
def execMovLD (s : State) : Result := moveRegister .l .d s
/-- `MOV L,E` (R114). -/
def execMovLE (s : State) : Result := moveRegister .l .e s
/-- `MOV L,H` (R114). -/
def execMovLH (s : State) : Result := moveRegister .l .h s
/-- `MOV L,L` (R114). -/
def execMovLL (s : State) : Result := moveRegister .l .l s
/-- `MOV L,A` (R114). -/
def execMovLA (s : State) : Result := moveRegister .l .a s
/-- `MOV A,B` (R114). -/
def execMovAB (s : State) : Result := moveRegister .a .b s
/-- `MOV A,C` (R114). -/
def execMovAC (s : State) : Result := moveRegister .a .c s
/-- `MOV A,D` (R114). -/
def execMovAD (s : State) : Result := moveRegister .a .d s
/-- `MOV A,E` (R114). -/
def execMovAE (s : State) : Result := moveRegister .a .e s
/-- `MOV A,H` (R114). -/
def execMovAH (s : State) : Result := moveRegister .a .h s
/-- `MOV A,L` (R114). -/
def execMovAL (s : State) : Result := moveRegister .a .l s
/-- `MOV A,A` (R114). -/
def execMovAA (s : State) : Result := moveRegister .a .a s
/-- `MOV B,M` (R115). -/
def execMovBM (s : State) : Result := moveFromMemory .b s
/-- `MOV C,M` (R115). -/
def execMovCM (s : State) : Result := moveFromMemory .c s
/-- `MOV D,M` (R115). -/
def execMovDM (s : State) : Result := moveFromMemory .d s
/-- `MOV E,M` (R115). -/
def execMovEM (s : State) : Result := moveFromMemory .e s
/-- `MOV H,M` (R115). -/
def execMovHM (s : State) : Result := moveFromMemory .h s
/-- `MOV L,M` (R115). -/
def execMovLM (s : State) : Result := moveFromMemory .l s
/-- `MOV A,M` (R115). -/
def execMovAM (s : State) : Result := moveFromMemory .a s
/-- `MOV M,B` (R116). -/
def execMovMB (s : State) : Result := moveToMemory .b s
/-- `MOV M,C` (R116). -/
def execMovMC (s : State) : Result := moveToMemory .c s
/-- `MOV M,D` (R116). -/
def execMovMD (s : State) : Result := moveToMemory .d s
/-- `MOV M,E` (R116). -/
def execMovME (s : State) : Result := moveToMemory .e s
/-- `MOV M,H` (R116). -/
def execMovMH (s : State) : Result := moveToMemory .h s
/-- `MOV M,L` (R116). -/
def execMovML (s : State) : Result := moveToMemory .l s
/-- `MOV M,A` (R116). -/
def execMovMA (s : State) : Result := moveToMemory .a s
/-- `LDA a16` (R117). -/
def execLda (a16 : Addr) (s : State) : Result := loadAccDirect a16 s
/-- `STA a16` (R118). -/
def execSta (a16 : Addr) (s : State) : Result := storeAccDirect a16 s
/-- `LHLD a16` (R119). -/
def execLhld (a16 : Addr) (s : State) : Result := loadHLDirect a16 s
/-- `SHLD a16` (R120). -/
def execShld (a16 : Addr) (s : State) : Result := storeHLDirect a16 s
/-- `LDAX B` (R121). -/
def execLdaxB (s : State) : Result := loadAccIndirect .bc s
/-- `LDAX D` (R121). -/
def execLdaxD (s : State) : Result := loadAccIndirect .de s
/-- `STAX B` (R122). -/
def execStaxB (s : State) : Result := storeAccIndirect .bc s
/-- `STAX D` (R122). -/
def execStaxD (s : State) : Result := storeAccIndirect .de s

end Sys2Proof.Machine
end

