-- ==== Sys2Proof/Machine/IoInterrupt.lean ====
section
/-! DEFINITION. I/O ports, interrupt enable, restart, halt (46_io_interrupt_restart_halt.md). -/

namespace Sys2Proof.Machine

/-- `IN d8` (R220): A takes what the port handler answers, a free value unless the handler is known (log entry 4). -/
def input (d8 : Byte) (s : State) : Result := .next (((s.portReadDone d8).setReg .a (s.portValue d8)).advance 2)

/-- `OUT d8` (R221): an output event, which changes nothing in the block. -/
def output (d8 : Byte) (s : State) : Result := .next ((s.portWrite d8 s.regs.a).advance 2)

/-- `EI` (R222): in effect at the boundary that follows. -/
def enableInterrupts (s : State) : Result := .next ((s.setIe true).advance 1)

/-- `DI` (R223). -/
def disableInterrupts (s : State) : Result := .next ((s.setIe false).advance 1)

/-- `RST n` (R224): pushes the address of the next instruction; IE is unchanged. -/
def restart (n : Fin 8) (s : State) : Result := .next (s.enterAt (s.pc + 1) (BitVec.ofNat 16 (8 * n.val)))

/-- `HLT` (R225): PC advances by 1, then RUN is Halted. -/
def halt (s : State) : Result := .next ((s.advance 1).setRun .halted)

/-! One definition for each instruction. -/

/-- `IN d8` (R220). -/
def execInPort (d8 : Byte) (s : State) : Result := input d8 s
/-- `OUT d8` (R221). -/
def execOutPort (d8 : Byte) (s : State) : Result := output d8 s
/-- `EI` (R222). -/
def execEi (s : State) : Result := enableInterrupts s
/-- `DI` (R223). -/
def execDi (s : State) : Result := disableInterrupts s
/-- `RST 0` (R224). -/
def execRst0 (s : State) : Result := restart 0 s
/-- `RST 1` (R224). -/
def execRst1 (s : State) : Result := restart 1 s
/-- `RST 2` (R224). -/
def execRst2 (s : State) : Result := restart 2 s
/-- `RST 3` (R224). -/
def execRst3 (s : State) : Result := restart 3 s
/-- `RST 4` (R224). -/
def execRst4 (s : State) : Result := restart 4 s
/-- `RST 5` (R224). -/
def execRst5 (s : State) : Result := restart 5 s
/-- `RST 6` (R224). -/
def execRst6 (s : State) : Result := restart 6 s
/-- `RST 7` (R224). -/
def execRst7 (s : State) : Result := restart 7 s
/-- `HLT` (R225). -/
def execHlt (s : State) : Result := halt s

end Sys2Proof.Machine
end

