-- ==== Sys2Proof/Machine/RegisterPair.lean ====
section
/-! DEFINITION. Register-pair increment, decrement and add (41_register_pair.md). -/

namespace Sys2Proof.Machine

/-- `INX rp` (R130): no flag. -/
def pairIncrement (p : Pair) (s : State) : Result := .next ((s.setPair p (s.getPair p + 1)).advance 1)

/-- `DCX rp` (R131): no flag. -/
def pairDecrement (p : Pair) (s : State) : Result := .next ((s.setPair p (s.getPair p - 1)).advance 1)

/-- `DAD rp` (R132): CY is the carry out of bit 15; no other flag. -/
def pairAdd (p : Pair) (s : State) : Result :=
  let res := s.hl.toNat + (s.getPair p).toNat
  .next (((s.setHl (BitVec.ofNat 16 res)).setFlags { s.flags with cy := carryFlagAdd res 16 }).advance 1)

/-! One definition for each instruction. -/

/-- `INX B` (R130). -/
def execInxB (s : State) : Result := pairIncrement .bc s
/-- `INX D` (R130). -/
def execInxD (s : State) : Result := pairIncrement .de s
/-- `INX H` (R130). -/
def execInxH (s : State) : Result := pairIncrement .hl s
/-- `INX SP` (R130). -/
def execInxSP (s : State) : Result := pairIncrement .sp s
/-- `DCX B` (R131). -/
def execDcxB (s : State) : Result := pairDecrement .bc s
/-- `DCX D` (R131). -/
def execDcxD (s : State) : Result := pairDecrement .de s
/-- `DCX H` (R131). -/
def execDcxH (s : State) : Result := pairDecrement .hl s
/-- `DCX SP` (R131). -/
def execDcxSP (s : State) : Result := pairDecrement .sp s
/-- `DAD B` (R132). -/
def execDadB (s : State) : Result := pairAdd .bc s
/-- `DAD D` (R132). -/
def execDadD (s : State) : Result := pairAdd .de s
/-- `DAD H` (R132). -/
def execDadH (s : State) : Result := pairAdd .hl s
/-- `DAD SP` (R132). -/
def execDadSP (s : State) : Result := pairAdd .sp s

end Sys2Proof.Machine
end

