-- ==== Sys2Proof/Machine/RotateExchange.lean ====
section
/-! DEFINITION. Accumulator rotates and exchanges (45_rotate_exchange.md). -/

namespace Sys2Proof.Machine

/-- The four rotates (R210 to R213): CY is the bit shifted out, no other flag is written. -/
def rotate (op : RotateOp) (s : State) : Result :=
  let out := rotate8 op s.regs.a s.flags.cy
  .next (((s.setReg .a out.1).setFlags { s.flags with cy := out.2 }).advance 1)

/-- `XCHG` (R214). -/
def exchangeHLDE (s : State) : Result := .next (((s.setHl s.de).setDe s.hl).advance 1)

/-- `XTHL` (R215): both reads come before both writes. -/
def exchangeStackTop (s : State) : Result := .next (((s.writeWord s.sp s.hl).setHl s.stackTop).advance 1)

/-! One definition for each instruction. -/

/-- `RLC` (R210). -/
def execRlc (s : State) : Result := rotate .rlc s
/-- `RRC` (R211). -/
def execRrc (s : State) : Result := rotate .rrc s
/-- `RAL` (R212). -/
def execRal (s : State) : Result := rotate .ral s
/-- `RAR` (R213). -/
def execRar (s : State) : Result := rotate .rar s
/-- `XCHG` (R214). -/
def execXchg (s : State) : Result := exchangeHLDE s
/-- `XTHL` (R215). -/
def execXthl (s : State) : Result := exchangeStackTop s

end Sys2Proof.Machine
end

