-- ==== Sys2Proof/Machine/Stack.lean ====
section
/-! DEFINITION. Stack push and pop, stack-pointer load (43_stack.md). -/

namespace Sys2Proof.Machine

/-- `PUSH rp` (R182). -/
def push (p : StackPair) (s : State) : Result := .next ((s.push16 (s.getPair (pairOf p))).advance 1)

/-- `POP rp` (R183). -/
def pop (p : StackPair) (s : State) : Result := .next ((s.dropTop.setPair (pairOf p) s.stackTop).advance 1)

/-- `PUSH PSW` (R184): A is the high byte. -/
def pushPSW (s : State) : Result := .next ((s.push16 (word16 s.regs.a s.flags.pswByte)).advance 1)

/-- `POP PSW` (R185). -/
def popPSW (s : State) : Result :=
  .next (((s.dropTop.setReg .a (hiByte s.stackTop)).setFlags (Flags.ofPswByte (loByte s.stackTop))).advance 1)

/-- `SPHL` (R186). -/
def loadSPFromHL (s : State) : Result := .next ((s.setSp s.hl).advance 1)

/-! One definition for each instruction. -/

/-- `PUSH B` (R182). -/
def execPushB (s : State) : Result := push .bc s
/-- `PUSH D` (R182). -/
def execPushD (s : State) : Result := push .de s
/-- `PUSH H` (R182). -/
def execPushH (s : State) : Result := push .hl s
/-- `POP B` (R183). -/
def execPopB (s : State) : Result := pop .bc s
/-- `POP D` (R183). -/
def execPopD (s : State) : Result := pop .de s
/-- `POP H` (R183). -/
def execPopH (s : State) : Result := pop .hl s
/-- `PUSH PSW` (R184). -/
def execPushPSW (s : State) : Result := pushPSW s
/-- `POP PSW` (R185). -/
def execPopPSW (s : State) : Result := popPSW s
/-- `SPHL` (R186). -/
def execSphl (s : State) : Result := loadSPFromHL s

end Sys2Proof.Machine
end

