-- ==== Sys2Proof/Machine/Cycle.lean ====
section
/-! DEFINITION. The step function of the core (60_exceptions.md R230 to R235) and the step boundary before it, at which a
request for an interrupt is presented (R236 to R240). -/

namespace Sys2Proof.Machine

/-- `step()` (R230): the terminal-state check, the opcode and its table entry, the fault of an Unimplemented kind before
anything else, then the instruction. The fault is a next state whose RUN is Faulted (R243, log entry 1). -/
def cpuStep (s : State) : Result :=
  match s.run with
  | .halted => .fault .invalidStepWhileHalted
  | .faulted _ => .fault .invalidStepWhileFaulted
  | .running =>
    match s.entry.kind with
    | .unimplemented => .next (s.raiseUnimplemented s.opcode)
    | _ => exec s.fetched s

/-- What `step()` returns to the host (R232), read from the run state after it; none for an instruction without a meaning,
and there is none. -/
def stepResult (s : State) : Option StepResult :=
  match cpuStep s with
  | .next t =>
    match t.run with
    | .running => some .okRunning
    | .halted => some .okHalted
    | .faulted r => some (.fault r)
  | .fault e => some (.error e)
  | .refused _ => none

/-- A boundary with a request that may be there, and what follows it: a request that is taken is a step of its own
(R238, R270); one that is not taken is lost, and the instruction runs (R237, R239, R245). -/
def boundaryStep (s : State) : Result :=
  match s.env.irqInput with
  | [] => cpuStep s
  | none :: rest => cpuStep (s.setIrqInput rest)
  | some target :: rest =>
    let s1 := s.setIrqInput rest
    if s1.takesInterrupt then .next (s1.acceptInterrupt target) else cpuStep s1

/-- The state in which the next step fetches an instruction of `nbits` bits with value `w` and runs it: its bytes at PC,
RUN at Running, nothing presented at the boundary, and its opcode not in UNIMPL_SET (log entry 9). -/
def placeWord (s : State) (nbits w : Nat) : State :=
  let byte (k : Nat) : Byte := tableByte (w % 2 ^ nbits) k
  let stored := ((s.writeByte s.pc (byte 0)).writeByte (s.pc + 1) (byte 1)).writeByte (s.pc + 2) (byte 2)
  ((stored.setRun .running).setParams { s.params with
    unimplSet := s.params.unimplSet.filter (fun op => !(op == byte 0)) }).setIrqInput []

end Sys2Proof.Machine
end

