-- ==== Sys2Proof/Machine/Step.lean ====
section
/-! DEFINITION. The step of the machine, and where the host places an instruction. -/

namespace Sys2Proof.Machine

/-- One step of the machine: one interrupt acceptance or one instruction (R270). -/
def step (s : State) : Host.Outcome State Fault Refusal := boundaryStep s

/-- `s` with an instruction stored where `step` fetches its next one (log entry 9). -/
def State.withFetchWord (s : State) (nbits w : Nat) : State := placeWord s nbits w

end Sys2Proof.Machine
end

