-- ==== Sys2Proof/Safety.lean ====
section
/-! DEFINITION. What claims use: the invariant of the machine, and a run that meets no fault. -/

namespace Sys2Proof.Machine

/-- A machine that has faulted still stands at the opcode it recorded, which is in UNIMPL_SET (R242, R243). -/
def State.faultIsPrecise (s : State) : Prop :=
  ∀ value address, s.run = .faulted (.unimplementedOpcode value address) →
    s.pc = address ∧ s.readByte address = value ∧ value ∈ s.params.unimplSet

/-- The invariant every step keeps: memory is in its canonical form, and a fault is precise. -/
def State.Inv (s : State) : Prop := Memory.wf s.params.resetMemoryByte s.mem = true ∧ s.faultIsPrecise

/-- RUN is not Faulted. -/
def State.notFaulted (s : State) : Prop := ∀ r, s.run ≠ .faulted r

end Sys2Proof.Machine
end

