-- ==== Sys2Proof/Certificates/Slice0/Obligations.lean ====
section
/-! DEFINITION. The statements for the provers, and the few words they are written in.

Most of them say `seen t = {seen s with …}`: everything that can be read of the next state `t` is as in `s` but for what
is named, so each says what an instruction changes AND that it changes nothing else (its frame). -/

namespace Sys2Proof.Claims

open Sys2Proof.Machine

/-- Everything that can be read of a state (10_state.md R45): each register, each byte of memory, the rest. -/
@[ext] structure Observed where
  reg : Reg → Byte
  byte : Addr → Byte
  flags : Flags
  pc : Addr
  sp : Addr
  ie : Bool
  run : RunState
  params : Params
  env : Env

/-- What is read of a state. -/
def seen (s : State) : Observed :=
  { reg := s.regs.get, byte := s.readByte, flags := s.flags, pc := s.pc, sp := s.sp, ie := s.ie, run := s.run,
    params := s.params, env := s.env }

/-- A function changed at one argument. -/
def setAt {α β : Type} [DecidableEq α] (f : α → β) (k : α) (v : β) : α → β := fun x => if x = k then v else f x

/-- A word put into two registers, the high half first (R22). -/
def setRegs2 (reg : Reg → Byte) (hi lo : Reg) (v : Addr) : Reg → Byte :=
  setAt (setAt reg hi (BitVec.ofNat 8 (v.toNat / 256))) lo (BitVec.ofNat 8 v.toNat)

/-- `rp16[pp] <- v` (R9, R22, R87). -/
def Observed.setPair (o : Observed) (p : Pair) (v : Addr) : Observed :=
  match p with
  | .bc => { o with reg := setRegs2 o.reg .b .c v }
  | .de => { o with reg := setRegs2 o.reg .d .e v }
  | .hl => { o with reg := setRegs2 o.reg .h .l v }
  | .sp => { o with sp := v }

/-- The value of `rp16[pp]` as a number (R8, R22, R87). -/
def pairNat (s : State) (p : Pair) : Nat :=
  match p with
  | .bc => s.regs.b.toNat * 256 + s.regs.c.toNat
  | .de => s.regs.d.toNat * 256 + s.regs.e.toNat
  | .hl => s.regs.h.toNat * 256 + s.regs.l.toNat
  | .sp => s.sp.toNat

/-- The address in a pair: HL is the address of operand `M` (R22, R86). -/
def pairAddr (s : State) (p : Pair) : Addr := BitVec.ofNat 16 (pairNat s p)

/-- The address of LDAX and STAX (R87). -/
def indPair : IndPair → Pair
  | .bc => .bc
  | .de => .de

/-- The pair of PUSH and POP (R87). -/
def stackPair : StackPair → Pair
  | .bc => .bc
  | .de => .de
  | .hl => .hl

/-- Memory with a word pushed from SP: high byte at SP-1, low byte at SP-2 (R180). -/
def pushed (s : State) (v : Addr) : Addr → Byte :=
  setAt (setAt s.readByte (s.sp - 1) (BitVec.ofNat 8 (v.toNat / 256))) (s.sp - 2) (BitVec.ofNat 8 v.toNat)

/-- The word on top of the stack: low byte at SP, high byte at SP+1 (R181). -/
def topWord (s : State) : Addr := BitVec.ofNat 16 ((s.readByte (s.sp + 1)).toNat * 256 + (s.readByte s.sp).toNat)

/-- The number of set bits of a byte is even (R32). -/
def evenOnes (v : Byte) : Bool := decide (((List.range 8).filter fun k => v.getLsbD k).length % 2 = 0)

/-- Flags with Z, S, P of an 8-bit result (R30, R31, R32, R37) and a given CY and AC. -/
def flagsOf (res : Byte) (cy ac : Bool) : Flags :=
  { z := decide (res = 0), s := decide (128 ≤ res.toNat), p := evenOnes res, cy := cy, ac := ac }

/-- The operand forms of the ALU instructions (R143). -/
inductive AluForm where
  | reg (r : Reg)
  | mem
  | imm (d8 : Byte)

/-- The instruction of an operation and an operand form. -/
def AluForm.instr (form : AluForm) (op : AluOp) : Instr :=
  match form with
  | .reg r => Instr.aluReg op r
  | .mem => Instr.aluMem op
  | .imm d8 => Instr.aluImm op d8

/-- Its bytes: `10aaasss`, `10aaa110`, `11aaa110 d8` (R85, R91, R92). -/
def AluForm.bytes (form : AluForm) (op : AluOp) : List Byte :=
  match form with
  | .reg r => [BitVec.ofNat 8 (0x80 + 8 * op.code + r.code)]
  | .mem => [BitVec.ofNat 8 (0x86 + 8 * op.code)]
  | .imm d8 => [BitVec.ofNat 8 (0xC6 + 8 * op.code), d8]

/-- The second operand (R143). -/
def AluForm.value (form : AluForm) (s : State) : Byte :=
  match form with
  | .reg r => s.regs.get r
  | .mem => s.readByte (pairAddr s .hl)
  | .imm d8 => d8

/-- Its length (R82). -/
def AluForm.length (form : AluForm) : Addr :=
  match form with
  | .imm _ => 2
  | _ => 1

/-- When a condition holds (R88). -/
def condTrue (cond : Cond) (f : Flags) : Prop :=
  match cond with
  | .nz => f.z = false
  | .z => f.z = true
  | .nc => f.cy = false
  | .c => f.cy = true
  | .po => f.p = false
  | .pe => f.p = true
  | .p => f.s = false
  | .m => f.s = true

/-- The two-digit decimal number `n` in packed BCD. -/
def bcd (n : Nat) : Byte := BitVec.ofNat 8 (n / 10 * 16 + n % 10)

/-- A set of flags. -/
structure FlagSet where
  z : Bool
  s : Bool
  p : Bool
  cy : Bool
  ac : Bool

/-- The flags that a kind of instruction writes (R35). -/
def flagsWritten : Kind → FlagSet
  | .aluRegister _ | .aluMemory _ | .aluImmediate _ | .decimalAdjust | .popPSW => ⟨true, true, true, true, true⟩
  | .incrementRegister | .incrementMemory | .decrementRegister | .decrementMemory => ⟨true, true, true, false, true⟩
  | .pairAdd | .rotate | .setCarry | .complementCarry => ⟨false, false, false, true, false⟩
  | _ => ⟨false, false, false, false, false⟩

/-- The flags that an instruction reads (R36). -/
def flagsRead : Instr → FlagSet
  | .jnz _ | .jz _ | .cnz _ | .cz _ | .rnz | .rz => ⟨true, false, false, false, false⟩
  | .jp _ | .jm _ | .cp _ | .cm _ | .rp | .rm => ⟨false, true, false, false, false⟩
  | .jpo _ | .jpe _ | .cpo _ | .cpe _ | .rpo | .rpe => ⟨false, false, true, false, false⟩
  | .jnc _ | .jc _ | .cnc _ | .cc _ | .rnc | .rc => ⟨false, false, false, true, false⟩
  | .ral | .rar | .cmc | .aci _ | .sbi _ => ⟨false, false, false, true, false⟩
  | .daa => ⟨false, false, false, true, true⟩
  | .pushPSW => ⟨true, true, true, true, true⟩
  | i =>
    match i.kind with
    | .aluRegister .adc | .aluMemory .adc | .aluRegister .sbb | .aluMemory .sbb => ⟨false, false, false, true, false⟩
    | _ => ⟨false, false, false, false, false⟩

/-- Two sets of flags agree on the flags of a set. -/
def agreeOn (w : FlagSet) (f g : Flags) : Prop :=
  (w.z = true → f.z = g.z) ∧ (w.s = true → f.s = g.s) ∧ (w.p = true → f.p = g.p) ∧
    (w.cy = true → f.cy = g.cy) ∧ (w.ac = true → f.ac = g.ac)

/-- The other flags. -/
def FlagSet.others (w : FlagSet) : FlagSet := ⟨!w.z, !w.s, !w.p, !w.cy, !w.ac⟩

/-- The kinds that may set PC to a target instead of adding the length (R26 b to d). -/
def transfersControl : Kind → Bool
  | .jump | .conditionalJump | .jumpHL | .call | .conditionalCall | .returns | .conditionalReturn | .restart => true
  | _ => false

/-- The kinds that may write SP, other than LXI, INX and DCX, which do so for one pair (R28). -/
def movesStack : Kind → Bool
  | .loadSPFromHL | .push | .pop | .pushPSW | .popPSW | .call | .conditionalCall | .returns | .conditionalReturn
  | .restart => true
  | _ => false

/-- The kinds that may store to memory (20_memory.md R50, R62). -/
def storesToMemory : Kind → Bool
  | .moveToMemory | .moveImmediateToMemory | .storeAccDirect | .storeHLDirect | .storeAccIndirect | .incrementMemory
  | .decrementMemory | .push | .pushPSW | .exchangeStackTop | .call | .conditionalCall | .restart => true
  | _ => false

/-- The two bytes of a pushed word with their addresses, in the order in which they are stored (R180). -/
def pushedBytes (s : State) (v : Addr) : List (Addr × Byte) :=
  [(s.sp - 1, BitVec.ofNat 8 (v.toNat / 256)), (s.sp - 2, BitVec.ofNat 8 v.toNat)]

/-- The bytes that an instruction stores with their addresses, in the order in which they are stored: the operand at HL,
at the immediate address, at BC or DE, or the stack. Every other instruction stores nothing. -/
def storedBytes : Instr → State → List (Addr × Byte)
  | .movMB, s => [(pairAddr s .hl, s.regs.get .b)]
  | .movMC, s => [(pairAddr s .hl, s.regs.get .c)]
  | .movMD, s => [(pairAddr s .hl, s.regs.get .d)]
  | .movME, s => [(pairAddr s .hl, s.regs.get .e)]
  | .movMH, s => [(pairAddr s .hl, s.regs.get .h)]
  | .movML, s => [(pairAddr s .hl, s.regs.get .l)]
  | .movMA, s => [(pairAddr s .hl, s.regs.get .a)]
  | .mviM d8, s => [(pairAddr s .hl, d8)]
  | .inrM, s => [(pairAddr s .hl, s.readByte (pairAddr s .hl) + 1)]
  | .dcrM, s => [(pairAddr s .hl, s.readByte (pairAddr s .hl) - 1)]
  | .sta a16, s => [(a16, s.regs.get .a)]
  | .shld a16, s => [(a16, s.regs.get .l), (a16 + 1, s.regs.get .h)]
  | .staxB, s => [(pairAddr s .bc, s.regs.get .a)]
  | .staxD, s => [(pairAddr s .de, s.regs.get .a)]
  | .pushB, s => pushedBytes s (pairAddr s .bc)
  | .pushD, s => pushedBytes s (pairAddr s .de)
  | .pushH, s => pushedBytes s (pairAddr s .hl)
  | .pushPSW, s => [(s.sp - 1, s.regs.get .a), (s.sp - 2, s.flags.pswByte)]
  | .xthl, s => [(s.sp, s.regs.get .l), (s.sp + 1, s.regs.get .h)]
  | .call _ _, s => pushedBytes s (s.pc + 3)
  | .cnz _, s => if s.flags.z then [] else pushedBytes s (s.pc + 3)
  | .cz _, s => if s.flags.z then pushedBytes s (s.pc + 3) else []
  | .cnc _, s => if s.flags.cy then [] else pushedBytes s (s.pc + 3)
  | .cc _, s => if s.flags.cy then pushedBytes s (s.pc + 3) else []
  | .cpo _, s => if s.flags.p then [] else pushedBytes s (s.pc + 3)
  | .cpe _, s => if s.flags.p then pushedBytes s (s.pc + 3) else []
  | .cp _, s => if s.flags.s then [] else pushedBytes s (s.pc + 3)
  | .cm _, s => if s.flags.s then pushedBytes s (s.pc + 3) else []
  | .rst0, s | .rst1, s | .rst2, s | .rst3, s | .rst4, s | .rst5, s | .rst6, s | .rst7, s => pushedBytes s (s.pc + 1)
  | _, _ => []

/-- What memory reads as once the bytes are stored one after another. -/
def afterStores (byte : Addr → Byte) (stores : List (Addr × Byte)) : Addr → Byte :=
  stores.foldl (fun f e => setAt f e.1 e.2) byte

/-- No request will be taken at this boundary: none is presented, or it cannot be taken (R236, R239). -/
def noInterrupt (s : State) : Prop :=
  ∀ target rest, s.env.irqInput = some target :: rest → s.run ≠ .running ∨ s.ie = false

/-- IrqInput after this boundary. -/
def irqUsed (s : State) : Env := { s.env with irqInput := s.env.irqInput.tail }

end Sys2Proof.Claims

open Sys2Proof Sys2Proof.Machine Sys2Proof.Claims

/-! ## Data transfer -/

/-- NOP and its seven aliases advance PC by 1 and change nothing else. That those opcodes are aliases is decision D2 of
92_eei_decisions.md; that they are a field of the instruction is the model's choice, log entry 10. -/
def Obligations.NopOnlyAdvancesPc : Prop :=
  ∀ (s : State) (nnn : BitVec 3),
    encode (.nop nnn) = [BitVec.ofNat 8 (8 * nnn.toNat)] ∧
    ∃ t, exec (.nop nnn) s = .next t ∧ seen t = { seen s with pc := s.pc + 1 }

/-- R111, R112: MVI puts the immediate into the register or into the byte at HL. -/
def Obligations.MoveImmediateStoresOperand : Prop :=
  ∀ (s : State) (r : Reg) (d8 : Byte),
    (encode (Instr.mviReg r d8) = [BitVec.ofNat 8 (0x06 + 8 * r.code), d8] ∧
      ∃ t, exec (Instr.mviReg r d8) s = .next t ∧
        seen t = { seen s with reg := setAt s.regs.get r d8, pc := s.pc + 2 }) ∧
    (encode (.mviM d8) = [0x36, d8] ∧
      ∃ t, exec (.mviM d8) s = .next t ∧
        seen t = { seen s with byte := setAt s.readByte (pairAddr s .hl) d8, pc := s.pc + 2 })

/-- LXI puts the word into the pair or into SP. Code 11 is SP by decision D28 of 92_eei_decisions.md. -/
def Obligations.LoadPairImmediateFillsPair : Prop :=
  ∀ (s : State) (p : Pair) (d16 : Addr),
    encode (Instr.lxiPair p d16) =
      [BitVec.ofNat 8 (0x01 + 16 * p.code), BitVec.ofNat 8 d16.toNat, BitVec.ofNat 8 (d16.toNat / 256)] ∧
    ∃ t, exec (Instr.lxiPair p d16) s = .next t ∧
      seen t = { (seen s).setPair p d16 with pc := s.pc + 3 }

/-- R114: MOV copies the source register, for every pair of registers, equal ones too. -/
def Obligations.MoveCopiesRegister : Prop :=
  ∀ (s : State) (dst src : Reg),
    encode (Instr.movRegReg dst src) = [BitVec.ofNat 8 (0x40 + 8 * dst.code + src.code)] ∧
    ∃ t, exec (Instr.movRegReg dst src) s = .next t ∧
      seen t = { seen s with reg := setAt s.regs.get dst (s.regs.get src), pc := s.pc + 1 }

/-- R115, R116: MOV r,M loads from the old HL; MOV M,r stores to HL. -/
def Obligations.MoveThroughHLLoadsAndStores : Prop :=
  ∀ (s : State) (r : Reg),
    (encode (Instr.movRegMem r) = [BitVec.ofNat 8 (0x46 + 8 * r.code)] ∧
      ∃ t, exec (Instr.movRegMem r) s = .next t ∧
        seen t = { seen s with reg := setAt s.regs.get r (s.readByte (pairAddr s .hl)), pc := s.pc + 1 }) ∧
    (encode (Instr.movMemReg r) = [BitVec.ofNat 8 (0x70 + r.code)] ∧
      ∃ t, exec (Instr.movMemReg r) s = .next t ∧
        seen t = { seen s with byte := setAt s.readByte (pairAddr s .hl) (s.regs.get r), pc := s.pc + 1 })

/-- R117, R118, R121, R122: LDA, STA, LDAX, STAX move A from and to the byte at the address. -/
def Obligations.AccumulatorLoadsAndStores : Prop :=
  ∀ (s : State) (a16 : Addr) (p : IndPair),
    (encode (.lda a16) = [0x3A, BitVec.ofNat 8 a16.toNat, BitVec.ofNat 8 (a16.toNat / 256)] ∧
      ∃ t, exec (.lda a16) s = .next t ∧
        seen t = { seen s with reg := setAt s.regs.get .a (s.readByte a16), pc := s.pc + 3 }) ∧
    (encode (.sta a16) = [0x32, BitVec.ofNat 8 a16.toNat, BitVec.ofNat 8 (a16.toNat / 256)] ∧
      ∃ t, exec (.sta a16) s = .next t ∧
        seen t = { seen s with byte := setAt s.readByte a16 (s.regs.get .a), pc := s.pc + 3 }) ∧
    (encode (Instr.ldaxPair p) = [BitVec.ofNat 8 (0x0A + 16 * p.code)] ∧
      ∃ t, exec (Instr.ldaxPair p) s = .next t ∧
        seen t = { seen s with reg := setAt s.regs.get .a (s.readByte (pairAddr s (indPair p))), pc := s.pc + 1 }) ∧
    (encode (Instr.staxPair p) = [BitVec.ofNat 8 (0x02 + 16 * p.code)] ∧
      ∃ t, exec (Instr.staxPair p) s = .next t ∧
        seen t = { seen s with byte := setAt s.readByte (pairAddr s (indPair p)) (s.regs.get .a), pc := s.pc + 1 })

/-- LHLD and SHLD move L at the address and H at the address after it, which wraps past 0xFFFF. The wrap is decision D11
of 92_eei_decisions.md. -/
def Obligations.HLLoadsAndStoresDirect : Prop :=
  ∀ (s : State) (a16 : Addr),
    (encode (.lhld a16) = [0x2A, BitVec.ofNat 8 a16.toNat, BitVec.ofNat 8 (a16.toNat / 256)] ∧
      ∃ t, exec (.lhld a16) s = .next t ∧
        seen t = { seen s with
          reg := setAt (setAt s.regs.get .l (s.readByte a16)) .h (s.readByte (a16 + 1)), pc := s.pc + 3 }) ∧
    (encode (.shld a16) = [0x22, BitVec.ofNat 8 a16.toNat, BitVec.ofNat 8 (a16.toNat / 256)] ∧
      ∃ t, exec (.shld a16) s = .next t ∧
        seen t = { seen s with
          byte := setAt (setAt s.readByte a16 (s.regs.get .l)) (a16 + 1) (s.regs.get .h), pc := s.pc + 3 })

/-! ## Register pairs -/

/-- INX and DCX wrap modulo 2^16 and write no flag. Code 11 is SP by decision D28 of 92_eei_decisions.md. -/
def Obligations.PairIncrementAndDecrementWrap : Prop :=
  ∀ (s : State) (p : Pair),
    (encode (Instr.inxPair p) = [BitVec.ofNat 8 (0x03 + 16 * p.code)] ∧
      ∃ t, exec (Instr.inxPair p) s = .next t ∧
        seen t = { (seen s).setPair p (BitVec.ofNat 16 (pairNat s p + 1)) with pc := s.pc + 1 }) ∧
    (encode (Instr.dcxPair p) = [BitVec.ofNat 8 (0x0B + 16 * p.code)] ∧
      ∃ t, exec (Instr.dcxPair p) s = .next t ∧
        seen t = { (seen s).setPair p (BitVec.ofNat 16 (pairNat s p + 65535)) with pc := s.pc + 1 })

/-- DAD adds a pair to HL and writes CY alone. Code 11 is SP by decision D28 of 92_eei_decisions.md. -/
def Obligations.PairAddWritesHLAndCarry : Prop :=
  ∀ (s : State) (p : Pair),
    encode (Instr.dadPair p) = [BitVec.ofNat 8 (0x09 + 16 * p.code)] ∧
    ∃ t, exec (Instr.dadPair p) s = .next t ∧
      seen t = { (seen s).setPair .hl (BitVec.ofNat 16 (pairNat s .hl + pairNat s p)) with
        flags := { s.flags with cy := decide (65535 < pairNat s .hl + pairNat s p) }, pc := s.pc + 1 }

/-! ## ALU -/

/-- ADD, ADC and the M and immediate forms: sum, all five flags, frame. AC is by decision D8 of 92_eei_decisions.md. -/
def Obligations.AdditionResultAndFlags : Prop :=
  ∀ (s : State) (form : AluForm) (withCarry : Bool),
    let op : AluOp := if withCarry then .adc else .add
    let c : Nat := if withCarry && s.flags.cy then 1 else 0
    let a : Nat := (s.regs.get .a).toNat
    let v : Nat := (form.value s).toNat
    encode (form.instr op) = form.bytes op ∧
    ∃ t, exec (form.instr op) s = .next t ∧
      seen t = { seen s with
        reg := setAt s.regs.get .a (BitVec.ofNat 8 (a + v + c))
        flags := flagsOf (BitVec.ofNat 8 (a + v + c)) (decide (256 ≤ a + v + c)) (decide (16 ≤ a % 16 + v % 16 + c))
        pc := s.pc + form.length }

/-- SUB, SBB and the M and immediate forms: difference, borrow, all five flags, frame. AC, which is 1 when no borrow
leaves bit 4, is by decision D8 of 92_eei_decisions.md. -/
def Obligations.SubtractionResultAndFlags : Prop :=
  ∀ (s : State) (form : AluForm) (withBorrow : Bool),
    let op : AluOp := if withBorrow then .sbb else .sub
    let c : Nat := if withBorrow && s.flags.cy then 1 else 0
    let a : Nat := (s.regs.get .a).toNat
    let v : Nat := (form.value s).toNat
    encode (form.instr op) = form.bytes op ∧
    ∃ t, exec (form.instr op) s = .next t ∧
      seen t = { seen s with
        reg := setAt s.regs.get .a (BitVec.ofNat 8 (a + 512 - v - c))
        flags := flagsOf (BitVec.ofNat 8 (a + 512 - v - c)) (decide (a < v + c)) (decide (v % 16 + c ≤ a % 16))
        pc := s.pc + form.length }

/-- CMP and CPI leave A and write the five flags as SUB does. AC is by decision D8 of 92_eei_decisions.md. -/
def Obligations.CompareWritesFlagsOnly : Prop :=
  ∀ (s : State) (form : AluForm),
    let a : Nat := (s.regs.get .a).toNat
    let v : Nat := (form.value s).toNat
    encode (form.instr .cmp) = form.bytes .cmp ∧
    ∃ t, exec (form.instr .cmp) s = .next t ∧
      seen t = { seen s with
        flags := flagsOf (BitVec.ofNat 8 (a + 512 - v)) (decide (a < v)) (decide (v % 16 ≤ a % 16))
        pc := s.pc + form.length }

/-- The logical operations: CY cleared, AC the OR of bit 3 of the operands for AND and 0 for XOR and OR. CY and AC are by
decisions D8 and D9 of 92_eei_decisions.md. -/
def Obligations.LogicalResultAndFlags : Prop :=
  ∀ (s : State) (form : AluForm),
    let a : Byte := s.regs.get .a
    let v : Byte := form.value s
    ∀ op res ac,
      (op, res, ac) ∈ [(AluOp.ana, a &&& v, a.getLsbD 3 || v.getLsbD 3), (AluOp.xra, a ^^^ v, false), (AluOp.ora, a ||| v, false)] →
      encode (form.instr op) = form.bytes op ∧
      ∃ t, exec (form.instr op) s = .next t ∧
        seen t = { seen s with
          reg := setAt s.regs.get .a res, flags := flagsOf res false ac, pc := s.pc + form.length }

/-- INR of a register and of the byte at HL; CY is left, and AC is 1 exactly when the new low nibble is 0. AC and CY are by
decisions D8 and D25 of 92_eei_decisions.md. -/
def Obligations.IncrementResultAndFlags : Prop :=
  ∀ (s : State) (r : Reg),
    (let res : Byte := s.regs.get r + 1
     encode (Instr.inrReg r) = [BitVec.ofNat 8 (0x04 + 8 * r.code)] ∧
     ∃ t, exec (Instr.inrReg r) s = .next t ∧
       seen t = { seen s with
         reg := setAt s.regs.get r res, flags := flagsOf res s.flags.cy (decide (res.toNat % 16 = 0)), pc := s.pc + 1 }) ∧
    (let res : Byte := s.readByte (pairAddr s .hl) + 1
     encode .inrM = [0x34] ∧
     ∃ t, exec .inrM s = .next t ∧
       seen t = { seen s with
         byte := setAt s.readByte (pairAddr s .hl) res
         flags := flagsOf res s.flags.cy (decide (res.toNat % 16 = 0))
         pc := s.pc + 1 })

/-- DCR of a register and of the byte at HL; CY is left, and AC is 1 exactly when the old low nibble is not 0. AC and CY are
by decisions D8 and D25 of 92_eei_decisions.md. -/
def Obligations.DecrementResultAndFlags : Prop :=
  ∀ (s : State) (r : Reg),
    (let a : Byte := s.regs.get r
     encode (Instr.dcrReg r) = [BitVec.ofNat 8 (0x05 + 8 * r.code)] ∧
     ∃ t, exec (Instr.dcrReg r) s = .next t ∧
       seen t = { seen s with
         reg := setAt s.regs.get r (a - 1), flags := flagsOf (a - 1) s.flags.cy (decide (a.toNat % 16 ≠ 0)), pc := s.pc + 1 }) ∧
    (let a : Byte := s.readByte (pairAddr s .hl)
     encode .dcrM = [0x35] ∧
     ∃ t, exec .dcrM s = .next t ∧
       seen t = { seen s with
         byte := setAt s.readByte (pairAddr s .hl) (a - 1)
         flags := flagsOf (a - 1) s.flags.cy (decide (a.toNat % 16 ≠ 0))
         pc := s.pc + 1 })

/-- DAA: the correction, the result, the five flags, the frame. DAA is decision D10 of 92_eei_decisions.md. -/
def Obligations.DecimalAdjustResultAndFlags : Prop :=
  ∀ (s : State),
    let a : Nat := (s.regs.get .a).toNat
    let low : Bool := s.flags.ac || decide (9 < a % 16)
    let high : Bool := s.flags.cy || decide (0x99 < a)
    let res : Byte := BitVec.ofNat 8 (a + 6 * low.toNat + 96 * high.toNat)
    encode .daa = [0x27] ∧
    ∃ t, exec .daa s = .next t ∧
      seen t = { seen s with
        reg := setAt s.regs.get .a res
        flags := flagsOf res high (decide (16 ≤ a % 16 + 6 * low.toNat))
        pc := s.pc + 1 }

/-- An addition of two packed BCD numbers with carry, then DAA, gives the packed BCD sum, with CY when it passes 99, for
all 100 x 100 x 2 cases. This is what decision D10 of 92_eei_decisions.md says of its own DAA. -/
def Obligations.AddThenDecimalAdjustIsDecimalSum : Prop :=
  ∀ (s : State) (x y : Nat), x < 100 → y < 100 → s.regs.get .a = bcd x →
    let sum : Nat := x + y + (if s.flags.cy then 1 else 0)
    ∃ t u, exec (.aci (bcd y)) s = .next t ∧ exec .daa t = .next u ∧
      u.regs.get .a = bcd (sum % 100) ∧ u.flags.cy = decide (100 ≤ sum)

/-- CMA complements A and writes no flag; STC sets CY; CMC complements CY. That the other flags are left is decision D25 of
92_eei_decisions.md. -/
def Obligations.ComplementAndCarryInstructions : Prop :=
  ∀ (s : State),
    (encode .cma = [0x2F] ∧ ∃ t, exec .cma s = .next t ∧
      seen t = { seen s with reg := setAt s.regs.get .a (~~~(s.regs.get .a)), pc := s.pc + 1 }) ∧
    (encode .stc = [0x37] ∧ ∃ t, exec .stc s = .next t ∧
      seen t = { seen s with flags := { s.flags with cy := true }, pc := s.pc + 1 }) ∧
    (encode .cmc = [0x3F] ∧ ∃ t, exec .cmc s = .next t ∧
      seen t = { seen s with flags := { s.flags with cy := !s.flags.cy }, pc := s.pc + 1 })

/-- Subtraction is addition of the complement: the second form of the ALU's subtraction gives the same result, CY and AC
as the meaning. AC is by decision D8 of 92_eei_decisions.md. -/
def Obligations.SubtractionIsComplementAddition : Prop :=
  ∀ (a b : Byte) (borrow : Bool) (f : Flags),
    let t : Nat := a.toNat + (b ^^^ 0xFF).toNat + (1 - borrow.toNat)
    (sub8 a b borrow f).val = BitVec.ofNat 8 t ∧
    (sub8 a b borrow f).flags.cy = !(t.testBit 8) ∧
    (sub8 a b borrow f).flags.ac = decide (16 ≤ a.toNat % 16 + (b ^^^ 0xFF).toNat % 16 + (1 - borrow.toNat))

/-- The zero, sign and parity functions of 10_state.md, "Flags", for every result and width, in terms of the single bits. -/
def Obligations.FlagFunctionsReadTheBits : Prop :=
  ∀ (result width : Nat) (res : Byte),
    (zeroFlag result width = true ↔ ∀ k, k < width → result.testBit k = false) ∧
    (signFlag res = true ↔ 128 ≤ res.toNat) ∧
    (parityFlag result width = true ↔ ((List.range width).filter fun k => result.testBit k).length % 2 = 0)

/-! ## Stack -/

/-- R180, R181: what a push and a pop do to memory and SP, and that a pop returns what was pushed and restores SP, for
every word and every SP. -/
def Obligations.PushThenPopReturnsTheWord : Prop :=
  ∀ (s : State) (v : Addr),
    seen (s.push16 v) = { seen s with byte := pushed s v, sp := s.sp - 2 } ∧
    s.stackTop = topWord s ∧ seen s.dropTop = { seen s with sp := s.sp + 2 } ∧
    (s.push16 v).stackTop = v ∧ (s.push16 v).dropTop.sp = s.sp

/-- R182, R183: PUSH and POP of BC, DE and HL. -/
def Obligations.PushAndPopOfPairs : Prop :=
  ∀ (s : State) (p : StackPair),
    (encode (Instr.pushPair p) = [BitVec.ofNat 8 (0xC5 + 16 * p.code)] ∧
      ∃ t, exec (Instr.pushPair p) s = .next t ∧
        seen t = { seen s with byte := pushed s (pairAddr s (stackPair p)), sp := s.sp - 2, pc := s.pc + 1 }) ∧
    (encode (Instr.popPair p) = [BitVec.ofNat 8 (0xC1 + 16 * p.code)] ∧
      ∃ t, exec (Instr.popPair p) s = .next t ∧
        seen t = { (seen s).setPair (stackPair p) (topWord s) with sp := s.sp + 2, pc := s.pc + 1 })

/-- PUSH PSW stores A over a byte whose eight bits are S, Z, 0, AC, 0, P, 1, CY; POP PSW takes A and the flags from such a
byte. The layout and A as the high half are decisions D7 and D23 of 92_eei_decisions.md. -/
def Obligations.PushAndPopOfStatusWord : Prop :=
  ∀ (s : State),
    (encode .pushPSW = [0xF5] ∧ ∃ t, exec .pushPSW s = .next t ∧
      ∃ psw : Byte, psw.getLsbD 7 = s.flags.s ∧ psw.getLsbD 6 = s.flags.z ∧ psw.getLsbD 5 = false ∧
        psw.getLsbD 4 = s.flags.ac ∧ psw.getLsbD 3 = false ∧ psw.getLsbD 2 = s.flags.p ∧ psw.getLsbD 1 = true ∧
        psw.getLsbD 0 = s.flags.cy ∧
        seen t = { seen s with
          byte := setAt (setAt s.readByte (s.sp - 1) (s.regs.get .a)) (s.sp - 2) psw, sp := s.sp - 2, pc := s.pc + 1 }) ∧
    (encode .popPSW = [0xF1] ∧ ∃ t, exec .popPSW s = .next t ∧
      let psw : Byte := s.readByte s.sp
      seen t = { seen s with
        reg := setAt s.regs.get .a (s.readByte (s.sp + 1))
        flags := { s := psw.getLsbD 7, z := psw.getLsbD 6, ac := psw.getLsbD 4, p := psw.getLsbD 2, cy := psw.getLsbD 0 }
        sp := s.sp + 2
        pc := s.pc + 1 })

/-- A popped PSW byte f is pushed back as `f AND 0xD5 OR 0x02`, and PUSH PSW then POP PSW restores A and every flag. The
layout is decision D7 of 92_eei_decisions.md. -/
def Obligations.StatusWordRoundTrips : Prop :=
  (∀ f : Byte, (Flags.ofPswByte f).pswByte = (f &&& 0xD5) ||| 0x02) ∧
  ∀ (s t u : State), exec .pushPSW s = .next t → exec .popPSW t = .next u →
    u.regs = s.regs ∧ u.flags = s.flags ∧ u.sp = s.sp

/-- SPHL copies HL into SP. 43_stack.md takes this instruction from general knowledge, as it says. -/
def Obligations.LoadStackPointerFromHL : Prop :=
  ∀ (s : State), encode .sphl = [0xF9] ∧
    ∃ t, exec .sphl s = .next t ∧ seen t = { seen s with sp := pairAddr s .hl, pc := s.pc + 1 }

/-! ## Control transfer -/

/-- JMP and its alias go to the address, PCHL to HL; nothing else changes. The alias is decision D2 of 92_eei_decisions.md
and a field by the model's choice (log entry 10); 44_control_transfer.md takes PCHL from general knowledge, as it says. -/
def Obligations.JumpsGoToTheirTarget : Prop :=
  ∀ (s : State) (x : BitVec 1) (a16 : Addr),
    (encode (.jmp x a16) =
        [BitVec.ofNat 8 (0xC3 + 8 * x.toNat), BitVec.ofNat 8 a16.toNat, BitVec.ofNat 8 (a16.toNat / 256)] ∧
      ∃ t, exec (.jmp x a16) s = .next t ∧ seen t = { seen s with pc := a16 }) ∧
    (encode .pchl = [0xE9] ∧
      ∃ t, exec .pchl s = .next t ∧ seen t = { seen s with pc := pairAddr s .hl })

/-- CALL and its aliases push the address after the three bytes and go to the target. The aliases are decision D2 of
92_eei_decisions.md and a field by the model's choice, log entry 10. -/
def Obligations.CallPushesReturnAddress : Prop :=
  ∀ (s : State) (xx : BitVec 2) (a16 : Addr),
    encode (.call xx a16) =
      [BitVec.ofNat 8 (0xCD + 16 * xx.toNat), BitVec.ofNat 8 a16.toNat, BitVec.ofNat 8 (a16.toNat / 256)] ∧
    ∃ t, exec (.call xx a16) s = .next t ∧
      seen t = { seen s with byte := pushed s (s.pc + 3), sp := s.sp - 2, pc := a16 }

/-- RET and its alias pop PC and change nothing else. The alias is decision D2 of 92_eei_decisions.md and a field by the
model's choice, log entry 10. -/
def Obligations.ReturnPopsPc : Prop :=
  ∀ (s : State) (x : BitVec 1),
    encode (.ret x) = [BitVec.ofNat 8 (0xC9 + 16 * x.toNat)] ∧
    ∃ t, exec (.ret x) s = .next t ∧ seen t = { seen s with pc := topWord s, sp := s.sp + 2 }

/-- Jcc, Ccc and Rcc when the condition holds and when it does not. The condition codes are decision D22 of
92_eei_decisions.md. -/
def Obligations.ConditionalTransfersFollowTheFlag : Prop :=
  ∀ (s : State) (cond : Cond) (a16 : Addr),
    (encode (Instr.jumpCond cond a16) =
        [BitVec.ofNat 8 (0xC2 + 8 * cond.code), BitVec.ofNat 8 a16.toNat, BitVec.ofNat 8 (a16.toNat / 256)] ∧
      ∃ t, exec (Instr.jumpCond cond a16) s = .next t ∧
        (condTrue cond s.flags → seen t = { seen s with pc := a16 }) ∧
        (¬ condTrue cond s.flags → seen t = { seen s with pc := s.pc + 3 })) ∧
    (encode (Instr.callCond cond a16) =
        [BitVec.ofNat 8 (0xC4 + 8 * cond.code), BitVec.ofNat 8 a16.toNat, BitVec.ofNat 8 (a16.toNat / 256)] ∧
      ∃ t, exec (Instr.callCond cond a16) s = .next t ∧
        (condTrue cond s.flags → seen t = { seen s with byte := pushed s (s.pc + 3), sp := s.sp - 2, pc := a16 }) ∧
        (¬ condTrue cond s.flags → seen t = { seen s with pc := s.pc + 3 })) ∧
    (encode (Instr.retCond cond) = [BitVec.ofNat 8 (0xC0 + 8 * cond.code)] ∧
      ∃ t, exec (Instr.retCond cond) s = .next t ∧
        (condTrue cond s.flags → seen t = { seen s with pc := topWord s, sp := s.sp + 2 }) ∧
        (¬ condTrue cond s.flags → seen t = { seen s with pc := s.pc + 1 }))

/-- A CALL, then a RET in any later state whose SP is where the CALL left it and whose two bytes there are unchanged,
comes back to the instruction after the CALL with SP as before it (44_control_transfer.md, "Calling convention"). -/
def Obligations.CallThenReturnComesBack : Prop :=
  ∀ (s t u v : State) (xx : BitVec 2) (x : BitVec 1) (a16 : Addr),
    exec (.call xx a16) s = .next t → u.sp = t.sp → u.readByte u.sp = t.readByte u.sp →
    u.readByte (u.sp + 1) = t.readByte (u.sp + 1) → exec (.ret x) u = .next v →
    v.pc = s.pc + 3 ∧ v.sp = s.sp

/-! ## Rotate and exchange -/

/-- R212, R213: RAL and RAR rotate A through CY by one bit and write no other flag. -/
def Obligations.RotatesThroughCarry : Prop :=
  ∀ (s : State),
    (encode .ral = [0x17] ∧ ∃ t, exec .ral s = .next t ∧
      seen t = { seen s with
        reg := setAt s.regs.get .a ((s.regs.get .a <<< 1) ||| (if s.flags.cy then 0x01 else 0x00))
        flags := { s.flags with cy := (s.regs.get .a).getLsbD 7 }
        pc := s.pc + 1 }) ∧
    (encode .rar = [0x1F] ∧ ∃ t, exec .rar s = .next t ∧
      seen t = { seen s with
        reg := setAt s.regs.get .a ((s.regs.get .a >>> 1) ||| (if s.flags.cy then 0x80 else 0x00))
        flags := { s.flags with cy := (s.regs.get .a).getLsbD 0 }
        pc := s.pc + 1 })

/-- RLC and RRC rotate the 8 bits of A by one and copy the bit shifted out to CY. This is decision D14 of
92_eei_decisions.md. -/
def Obligations.RotatesOfTheAccumulator : Prop :=
  ∀ (s : State),
    (encode .rlc = [0x07] ∧ ∃ t, exec .rlc s = .next t ∧
      seen t = { seen s with
        reg := setAt s.regs.get .a ((s.regs.get .a).rotateLeft 1)
        flags := { s.flags with cy := (s.regs.get .a).getLsbD 7 }
        pc := s.pc + 1 }) ∧
    (encode .rrc = [0x0F] ∧ ∃ t, exec .rrc s = .next t ∧
      seen t = { seen s with
        reg := setAt s.regs.get .a ((s.regs.get .a).rotateRight 1)
        flags := { s.flags with cy := (s.regs.get .a).getLsbD 0 }
        pc := s.pc + 1 })

/-- XCHG exchanges H with D and L with E. 45_rotate_exchange.md takes its semantics from general knowledge, as it says. -/
def Obligations.ExchangeSwapsHLAndDE : Prop :=
  ∀ (s : State), encode .xchg = [0xEB] ∧
    ∃ t, exec .xchg s = .next t ∧
      seen t = { seen s with
        reg := setAt (setAt (setAt (setAt s.regs.get .h (s.regs.get .d)) .l (s.regs.get .e)) .d (s.regs.get .h)) .e
          (s.regs.get .l)
        pc := s.pc + 1 }

/-- XTHL exchanges L with the byte at SP and H with the byte at SP+1, and leaves SP. Both reads come before both writes by
decision D19 of 92_eei_decisions.md. -/
def Obligations.ExchangeStackTopSwapsHL : Prop :=
  ∀ (s : State), encode .xthl = [0xE3] ∧
    ∃ t, exec .xthl s = .next t ∧
      seen t = { seen s with
        reg := setAt (setAt s.regs.get .l (s.readByte s.sp)) .h (s.readByte (s.sp + 1))
        byte := setAt (setAt s.readByte s.sp (s.regs.get .l)) (s.sp + 1) (s.regs.get .h)
        pc := s.pc + 1 }

/-! ## Ports, interrupt enable, restart, halt -/

/-- IN: A takes the answer of the port handler, one read is counted, nothing else changes: the answer is DEFAULT_PORT_READ of
the shipped handler, the next known answer of an injected one, else the free value. Decision D12 of 92_eei_decisions.md; how
the model holds a handler and DEFAULT_PORT_READ is its own choice, log entry 4. -/
def Obligations.InputTakesTheHandlersAnswer : Prop :=
  ∀ (s : State) (d8 : Byte), encode (.inPort d8) = [0xDB, d8] ∧
    ∃ t, exec (.inPort d8) s = .next t ∧
      ∃ (v : Byte) (h : PortHandler),
        seen t = { seen s with
          reg := setAt s.regs.get .a v
          pc := s.pc + 2
          env := { s.env with handler := h, portReads := s.env.portReads + 1 } } ∧
        (s.env.handler = .shipped → v = s.params.defaultPortRead ∧ h = .shipped) ∧
        (∀ w rest, s.env.handler = .injected (w :: rest) → v = w ∧ h = .injected rest) ∧
        (s.env.handler = .injected [] → v = Config.freePortRead s.env.portReads d8 ∧ h = .injected [])

/-- OUT: one output event with the port and A, after the earlier ones, for an injected handler, none for the shipped one;
nothing of the block changes but PC. Decision D12 of 92_eei_decisions.md; the list of events is the model's, log entry 5. -/
def Obligations.OutputEmitsOneEvent : Prop :=
  ∀ (s : State) (d8 : Byte), encode (.outPort d8) = [0xD3, d8] ∧
    ∃ t, exec (.outPort d8) s = .next t ∧
      (s.env.handler = .shipped → seen t = { seen s with pc := s.pc + 2 }) ∧
      (∀ answers, s.env.handler = .injected answers →
        seen t = { seen s with
          pc := s.pc + 2
          env := { s.env with portWrites := s.env.portWrites ++ [{ port := d8, value := s.regs.get .a }] } })

/-- EI sets IE and DI clears it, at once; HLT advances PC by 1 and halts. Decisions D6 and D4 of 92_eei_decisions.md. -/
def Obligations.InterruptEnableAndHalt : Prop :=
  ∀ (s : State),
    (encode .ei = [0xFB] ∧ ∃ t, exec .ei s = .next t ∧ seen t = { seen s with ie := true, pc := s.pc + 1 }) ∧
    (encode .di = [0xF3] ∧ ∃ t, exec .di s = .next t ∧ seen t = { seen s with ie := false, pc := s.pc + 1 }) ∧
    (encode .hlt = [0x76] ∧ ∃ t, exec .hlt s = .next t ∧ seen t = { seen s with run := .halted, pc := s.pc + 1 })

/-- RST n pushes the address after it and goes to 8 n; IE is unchanged. Decision D17 of 92_eei_decisions.md. -/
def Obligations.RestartCallsItsVector : Prop :=
  ∀ (s : State) (n : Fin 8),
    encode (Instr.rst n) = [BitVec.ofNat 8 (0xC7 + 8 * n.val)] ∧
    ∃ t, exec (Instr.rst n) s = .next t ∧
      seen t = { seen s with byte := pushed s (s.pc + 1), sp := s.sp - 2, pc := BitVec.ofNat 16 (8 * n.val) }

/-! ## Encoding -/

/-- A few words written out bit by bit from the patterns of 30_encoding.md decode to the instruction they stand for. That
0xED is a CALL is decision D2 of 92_eei_decisions.md; that it is the value 2 of a field of CALL is the model's choice, log
entry 10. -/
def Obligations.WrittenWordsDecode : Prop :=
  ∀ (b2 b3 : Byte),
    decodeOp 0b01000001 b2 b3 = .movBC ∧ decodeOp 0b00111110 b2 b3 = .mviA b2 ∧ decodeOp 0b10011101 b2 b3 = .sbbL ∧
    decodeOp 0b00110001 b2 b3 = .lxiSP (word16 b3 b2) ∧ decodeOp 0b11110101 b2 b3 = .pushPSW ∧
    decodeOp 0b11101010 b2 b3 = .jpe (word16 b3 b2) ∧ decodeOp 0b11101101 b2 b3 = .call 2 (word16 b3 b2) ∧
    decodeOp 0b00011111 b2 b3 = .rar ∧ decodeOp 0b11011111 b2 b3 = .rst3 ∧ decodeOp 0b01110110 b2 b3 = .hlt

/-- The decoder gives back every instruction from its bytes, with every operand at every value, whatever bytes follow. That
an alias opcode is a value of a field of the instruction it executes as is the model's choice, log entry 10. -/
def Obligations.DecodeInvertsEncode : Prop :=
  ∀ (i : Instr) (rest : List Byte), decode (encode i ++ rest) = .ok (i, rest)

/-- Whatever the decoder reads, the bytes it read are the encoding of the term it gives: no bit of a word is dropped. That
each word has a term of its own, the alias opcodes too, is the model's choice, log entry 10; aliases execute alike (R95). -/
def Obligations.EncodeInvertsDecode : Prop :=
  ∀ (bytes rest : List Byte) (i : Instr), decode bytes = .ok (i, rest) → bytes = encode i ++ rest

/-- Every opcode byte decodes; the length is a function of that byte alone, given by the decode table, whatever UNIMPL_SET
is; the table's mnemonic and length are those of the decoded instruction, and so is its kind, but for an opcode of
UNIMPL_SET, whose kind is Unimplemented; a list that lacks operand bytes is rejected. UNIMPL_SET is decision D2 of
92_eei_decisions.md; that it is a list is the model's choice, log entry 3. -/
def Obligations.DecodeTableGivesTheLength : Prop :=
  ∀ (op : Byte) (unimplSet operands rest : List Byte),
    let entry := decodeTable unimplSet op
    (operands.length = entry.operandLength →
      ∃ i, decode (op :: (operands ++ rest)) = .ok (i, rest) ∧ i.operandLength = entry.operandLength ∧
        i.mnemonic = entry.mnemonic ∧ (op ∉ unimplSet → i.kind = entry.kind)) ∧
    (op ∈ unimplSet → entry.kind = .unimplemented) ∧
    (operands.length < entry.operandLength → decode (op :: operands) = .error (.missingOperand op))

/-! ## The step, faults, interrupts, reset, load -/

/-- A step runs the instruction that the bytes at PC decode to, after this boundary's presentation is used up. That IrqInput
is a list whose first entry a step uses up is the model's choice, log entry 6; that a step reads three bytes is log
entry 12 (DEDUCED). -/
def Obligations.StepRunsTheDecodedInstruction : Prop :=
  ∀ (s : State) (i : Instr) (rest : List Byte),
    s.run = .running → noInterrupt s → s.readByte s.pc ∉ s.params.unimplSet →
    decode [s.readByte s.pc, s.readByte (s.pc + 1), s.readByte (s.pc + 2)] = .ok (i, rest) →
    step s = exec i { s with env := irqUsed s }

/-- An opcode of UNIMPL_SET moves RUN to Faulted with the byte and PC, changes nothing else of the block, is reported so, and
the next step is an error. Decisions D2 and D3 of 92_eei_decisions.md. That the fault is a next state is log entry 1
(DEDUCED); the model's choices are IrqInput's use (log entry 6), the error as a fault (log entry 2) and `stepResult` (log
entry 15). -/
def Obligations.UnimplementedOpcodeFaultsPrecisely : Prop :=
  ∀ (s : State), s.run = .running → noInterrupt s → s.readByte s.pc ∈ s.params.unimplSet →
    ∃ t, step s = .next t ∧
      seen t = { seen s with run := .faulted (.unimplementedOpcode (s.readByte s.pc) s.pc), env := irqUsed s } ∧
      stepResult s = some (.fault (.unimplementedOpcode (s.readByte s.pc) s.pc)) ∧
      step t = .fault .invalidStepWhileFaulted

/-- A step in a terminal state is an error, whatever is presented; a running machine whose opcode is implemented reports
Halted exactly for the opcode of HLT, else Running. Decision D18 of 92_eei_decisions.md. The errors as faults (log entry 2)
and `stepResult` (log entry 15) are the model's choices; that the presentation does not matter is log entry 13 (DEDUCED). -/
def Obligations.StepResultsByRunState : Prop :=
  ∀ (s : State),
    (s.run = .halted → step s = .fault .invalidStepWhileHalted ∧ stepResult s = some (.error .invalidStepWhileHalted)) ∧
    (∀ r, s.run = .faulted r →
      step s = .fault .invalidStepWhileFaulted ∧ stepResult s = some (.error .invalidStepWhileFaulted)) ∧
    (s.run = .running → s.readByte s.pc ∉ s.params.unimplSet →
      (s.readByte s.pc = 0x76 → stepResult s = some .okHalted) ∧
      (s.readByte s.pc ≠ 0x76 → stepResult s = some .okRunning))

/-- Taking an interrupt, as the host's operation and as a step of the machine: PC is pushed, PC becomes the target, IE is
cleared, nothing else changes. Decision D5 of 92_eei_decisions.md; that IrqInput is a list whose first entry the step uses
up is the model's choice, log entry 6. -/
def Obligations.InterruptPushesPcAndDisables : Prop :=
  ∀ (s : State) (target : Addr), s.run = .running → s.ie = true →
    seen (s.interrupt target) = { seen s with byte := pushed s s.pc, sp := s.sp - 2, pc := target, ie := false } ∧
    (∀ rest, s.env.irqInput = some target :: rest →
      ∃ t, step s = .next t ∧
        seen t = { seen s with
          byte := pushed s s.pc, sp := s.sp - 2, pc := target, ie := false, env := { s.env with irqInput := rest } })

/-- A request while IE is 0 or in a terminal state changes nothing and is lost: the step is what it would be without it.
Decisions D4 and D5 of 92_eei_decisions.md; that the request and the instruction after it are one step is the model's
choice, log entry 6. -/
def Obligations.InterruptNotTakenIsLost : Prop :=
  ∀ (s : State) (target : Addr), (s.run ≠ .running ∨ s.ie = false) →
    s.interrupt target = s ∧
    (∀ rest, s.env.irqInput = some target :: rest → step s = step { s with env := { s.env with irqInput := none :: rest } })

/-- Reset from any state leaves the values of decision D1 of 92_eei_decisions.md, RESET_MEMORY_BYTE in every byte of memory,
and keeps the parameters and what the host owns; `State.reset` is such a state. That RESET_MEMORY_BYTE is a field of State
(log entry 7) and that reset keeps all of `params` and `env` (log entry 11) are the model's choices. -/
def Obligations.ResetLeavesTheZeroState : Prop :=
  ∀ (s : State),
    seen s.resetBlock =
      { reg := fun _ => 0x00, byte := fun _ => s.params.resetMemoryByte, flags := ⟨false, false, false, false, false⟩
        pc := 0x0000, sp := 0x0000, ie := false, run := .running, params := s.params, env := s.env } ∧
    State.reset.resetBlock = State.reset

/-- A load that fits writes exactly its bytes, and one that does not writes nothing and is OutOfRange. Decision D21 of
92_eei_decisions.md; that the error is a fault, which carries no state, is the model's choice, log entry 2. -/
def Obligations.LoadWritesExactlyItsBytes : Prop :=
  ∀ (s : State) (seg : Segment),
    (seg.offset + seg.bytes.length ≤ 0x10000 →
      ∃ t, s.load seg = .next t ∧
        seen t = { seen s with
          byte := fun a => if seg.offset ≤ a.toNat then (seg.bytes[a.toNat - seg.offset]?).getD (s.readByte a)
            else s.readByte a }) ∧
    (0x10000 < seg.offset + seg.bytes.length → s.load seg = .fault .outOfRange)

/-- Stores are seen by the next fetch (20_memory.md, "Instruction-fetch coherence"): after any instruction the opcode and the
operand bytes that the next step runs are read from memory with every byte the instruction stored in it, at the new PC,
which is the one after the instruction unless it is a transfer of control. The interrupt list and the three bytes read are
log entries 6 (DESIGN CHOICE) and 12 (DEDUCED). -/
def Obligations.StoreIsSeenByTheNextFetch : Prop :=
  ∀ (i : Instr) (s t : State), exec i s = .next t →
    let byte : Addr → Byte := afterStores s.readByte (storedBytes i s)
    t.readByte = byte ∧ t.opcode = byte t.pc ∧
    t.fetched = decodeOp (byte t.pc) (byte (t.pc + 1)) (byte (t.pc + 2)) ∧
    (transfersControl i.kind = false → t.pc = s.pc + BitVec.ofNat 16 (1 + i.operandLength)) ∧
    (t.run = .running → noInterrupt t → byte t.pc ∉ t.params.unimplSet →
      step t = exec (decodeOp (byte t.pc) (byte (t.pc + 1)) (byte (t.pc + 2))) { t with env := irqUsed t })

/-! ## Whole-machine rules -/

/-- The invariant holds after reset, for any parameters and any inputs, and so of `State.reset`. The canonical form of memory
in it is the model's choice, log entry 8. -/
def Obligations.ResetMeetsTheInvariant : Prop :=
  State.reset.Inv ∧ ∀ (params : Params) (env : Env), (State.resetWith params env).Inv

/-- Every step keeps the invariant: memory stays in its canonical form, and a faulted machine stands at the opcode of
UNIMPL_SET that it recorded. The canonical form is the model's choice, log entry 8. -/
def Obligations.StepKeepsTheInvariant : Prop :=
  ∀ (s t : State), s.Inv → step s = .next t → t.Inv

/-- Equal memories are equal data: two memories in canonical form that read the same at every address are the same list,
whatever RESET_MEMORY_BYTE is. The list and its canonical form are the model's choice, log entry 8. -/
def Obligations.CanonicalMemoriesAreEqual : Prop :=
  ∀ (fill : Byte) (m m' : Memory), Memory.wf fill m = true → Memory.wf fill m' = true →
    (∀ a, Memory.read fill m a = Memory.read fill m' a) → m = m'

/-- With no unimplemented opcode, a run of any length from any state that has not faulted, under any input, never faults: it
goes on, or it ends because the machine had halted. The empty UNIMPL_SET is decision D2 of 92_eei_decisions.md. That a step
of a halted machine ends the run in a fault (log entry 2) and that UNIMPL_SET is a list in State (log entry 3) are the
model's choices. -/
def Obligations.RunsOnlyEndByHalting : Prop :=
  ∀ (k : Nat) (s : State), s.notFaulted → s.params.unimplSet = [] →
    (∃ t, Host.Core.run core k s = .next t ∧ t.notFaulted ∧ t.params.unimplSet = []) ∨
      Host.Core.run core k s = .fault .invalidStepWhileHalted

/-- Every instruction leaves each flag that the table of flags written does not give it. The table is decision D25 of
92_eei_decisions.md. -/
def Obligations.FlagsOutsideTheTableAreKept : Prop :=
  ∀ (i : Instr) (s t : State), exec i s = .next t → agreeOn (flagsWritten i.kind).others t.flags s.flags

/-- An instruction reads no flag but those listed for it: two states that differ only in other flags lead to the same
registers, PC, SP, IE, RUN, memory and inputs, and to the same value of every flag the instruction writes. The list is
10_state.md's from general knowledge, as it says. That both states have one `env`, so that a port gives both the same
answer, is the model's choice, log entry 4. -/
def Obligations.OnlyListedFlagsAreRead : Prop :=
  ∀ (i : Instr) (s : State) (f : Flags), agreeOn (flagsRead i) f s.flags →
    ∃ t u, exec i s = .next t ∧ exec i { s with flags := f } = .next u ∧
      u = { t with flags := u.flags } ∧ agreeOn (flagsWritten i.kind) u.flags t.flags

/-- Every instruction that is no transfer of control advances PC by 1 plus its operand length, modulo 2^16, HLT too.
Decision D4 of 92_eei_decisions.md. -/
def Obligations.PcAdvancesByTheLength : Prop :=
  ∀ (i : Instr) (s t : State), transfersControl i.kind = false → exec i s = .next t →
    t.pc = s.pc + BitVec.ofNat 16 (1 + i.operandLength)

/-- IE changes by EI and DI alone, RUN by HLT alone, the parameters and IrqInput by no instruction, the port handler by IN
alone, the events by OUT alone. Decisions D4, D6 and D12 of 92_eei_decisions.md. The parameters, the handler, the events and
IrqInput as fields of State are the model's choices, log entries 3 to 7; so is that an OUT leaves the handler's answers as
they are, where R63 lets it have any effect in the handler (log entry 4). -/
def Obligations.ControlStateChangesOnlyAsListed : Prop :=
  ∀ (i : Instr) (s t : State), exec i s = .next t →
    (t.ie = if i = .ei then true else if i = .di then false else s.ie) ∧
    (t.run = if i = .hlt then .halted else s.run) ∧
    t.params = s.params ∧ t.env.irqInput = s.env.irqInput ∧
    (i.kind ≠ .input → t.env.handler = s.env.handler ∧ t.env.portReads = s.env.portReads) ∧
    (i.kind ≠ .output → t.env.portWrites = s.env.portWrites)

/-- Only the listed instructions write SP, and only the listed ones store: after every other instruction SP and every byte
of memory are as before (10_state.md, "Stack pointer"; 20_memory.md, "Widths, atomicity, side effects"). -/
def Obligations.StackPointerAndMemoryWritersAreListed : Prop :=
  ∀ (i : Instr) (s t : State), exec i s = .next t →
    (movesStack i.kind = false → (∀ v, i ≠ .lxiSP v) → i ≠ .inxSP → i ≠ .dcxSP → t.sp = s.sp) ∧
    (storesToMemory i.kind = false → ∀ a, t.readByte a = s.readByte a)
end

