-- ==== Sys2Proof/Laws/Decode.lean ====
section
/-! SUPPORT. The opcode byte alone decides the mnemonic, the length and the kind; operand bytes fill fields only. -/

namespace Sys2Proof

/-- Two instructions are the same but for their operand fields. -/
def sameOpcode (i j : Instr) : Prop := i.operandLength = j.operandLength ∧ i.mnemonic = j.mnemonic ∧ i.kind = j.kind

theorem sameOpcode_row0 (lo : Nat) (b2 b3 c2 c3 : Byte) : sameOpcode (decodeRow0 lo b2 b3) (decodeRow0 lo c2 c3) := by
  unfold decodeRow0
  generalize word16 b3 b2 = w
  generalize word16 c3 c2 = w'
  rcases lo with _ | _ | _ | _ | _ | _ | _ | _ | _ | _ | _ | _ | _ | _ | _ | _ <;> exact ⟨rfl, rfl, rfl⟩

theorem sameOpcode_row1 (lo : Nat) (b2 b3 c2 c3 : Byte) : sameOpcode (decodeRow1 lo b2 b3) (decodeRow1 lo c2 c3) := by
  unfold decodeRow1
  generalize word16 b3 b2 = w
  generalize word16 c3 c2 = w'
  rcases lo with _ | _ | _ | _ | _ | _ | _ | _ | _ | _ | _ | _ | _ | _ | _ | _ <;> exact ⟨rfl, rfl, rfl⟩

theorem sameOpcode_row2 (lo : Nat) (b2 b3 c2 c3 : Byte) : sameOpcode (decodeRow2 lo b2 b3) (decodeRow2 lo c2 c3) := by
  unfold decodeRow2
  generalize word16 b3 b2 = w
  generalize word16 c3 c2 = w'
  rcases lo with _ | _ | _ | _ | _ | _ | _ | _ | _ | _ | _ | _ | _ | _ | _ | _ <;> exact ⟨rfl, rfl, rfl⟩

theorem sameOpcode_row3 (lo : Nat) (b2 b3 c2 c3 : Byte) : sameOpcode (decodeRow3 lo b2 b3) (decodeRow3 lo c2 c3) := by
  unfold decodeRow3
  generalize word16 b3 b2 = w
  generalize word16 c3 c2 = w'
  rcases lo with _ | _ | _ | _ | _ | _ | _ | _ | _ | _ | _ | _ | _ | _ | _ | _ <;> exact ⟨rfl, rfl, rfl⟩

theorem sameOpcode_row4 (lo : Nat) (b2 b3 c2 c3 : Byte) : sameOpcode (decodeRow4 lo b2 b3) (decodeRow4 lo c2 c3) := by
  unfold decodeRow4
  generalize word16 b3 b2 = w
  generalize word16 c3 c2 = w'
  rcases lo with _ | _ | _ | _ | _ | _ | _ | _ | _ | _ | _ | _ | _ | _ | _ | _ <;> exact ⟨rfl, rfl, rfl⟩

theorem sameOpcode_row5 (lo : Nat) (b2 b3 c2 c3 : Byte) : sameOpcode (decodeRow5 lo b2 b3) (decodeRow5 lo c2 c3) := by
  unfold decodeRow5
  generalize word16 b3 b2 = w
  generalize word16 c3 c2 = w'
  rcases lo with _ | _ | _ | _ | _ | _ | _ | _ | _ | _ | _ | _ | _ | _ | _ | _ <;> exact ⟨rfl, rfl, rfl⟩

theorem sameOpcode_row6 (lo : Nat) (b2 b3 c2 c3 : Byte) : sameOpcode (decodeRow6 lo b2 b3) (decodeRow6 lo c2 c3) := by
  unfold decodeRow6
  generalize word16 b3 b2 = w
  generalize word16 c3 c2 = w'
  rcases lo with _ | _ | _ | _ | _ | _ | _ | _ | _ | _ | _ | _ | _ | _ | _ | _ <;> exact ⟨rfl, rfl, rfl⟩

theorem sameOpcode_row7 (lo : Nat) (b2 b3 c2 c3 : Byte) : sameOpcode (decodeRow7 lo b2 b3) (decodeRow7 lo c2 c3) := by
  unfold decodeRow7
  generalize word16 b3 b2 = w
  generalize word16 c3 c2 = w'
  rcases lo with _ | _ | _ | _ | _ | _ | _ | _ | _ | _ | _ | _ | _ | _ | _ | _ <;> exact ⟨rfl, rfl, rfl⟩

theorem sameOpcode_row8 (lo : Nat) (b2 b3 c2 c3 : Byte) : sameOpcode (decodeRow8 lo b2 b3) (decodeRow8 lo c2 c3) := by
  unfold decodeRow8
  generalize word16 b3 b2 = w
  generalize word16 c3 c2 = w'
  rcases lo with _ | _ | _ | _ | _ | _ | _ | _ | _ | _ | _ | _ | _ | _ | _ | _ <;> exact ⟨rfl, rfl, rfl⟩

theorem sameOpcode_row9 (lo : Nat) (b2 b3 c2 c3 : Byte) : sameOpcode (decodeRow9 lo b2 b3) (decodeRow9 lo c2 c3) := by
  unfold decodeRow9
  generalize word16 b3 b2 = w
  generalize word16 c3 c2 = w'
  rcases lo with _ | _ | _ | _ | _ | _ | _ | _ | _ | _ | _ | _ | _ | _ | _ | _ <;> exact ⟨rfl, rfl, rfl⟩

theorem sameOpcode_rowA (lo : Nat) (b2 b3 c2 c3 : Byte) : sameOpcode (decodeRowA lo b2 b3) (decodeRowA lo c2 c3) := by
  unfold decodeRowA
  generalize word16 b3 b2 = w
  generalize word16 c3 c2 = w'
  rcases lo with _ | _ | _ | _ | _ | _ | _ | _ | _ | _ | _ | _ | _ | _ | _ | _ <;> exact ⟨rfl, rfl, rfl⟩

theorem sameOpcode_rowB (lo : Nat) (b2 b3 c2 c3 : Byte) : sameOpcode (decodeRowB lo b2 b3) (decodeRowB lo c2 c3) := by
  unfold decodeRowB
  generalize word16 b3 b2 = w
  generalize word16 c3 c2 = w'
  rcases lo with _ | _ | _ | _ | _ | _ | _ | _ | _ | _ | _ | _ | _ | _ | _ | _ <;> exact ⟨rfl, rfl, rfl⟩

theorem sameOpcode_rowC (lo : Nat) (b2 b3 c2 c3 : Byte) : sameOpcode (decodeRowC lo b2 b3) (decodeRowC lo c2 c3) := by
  unfold decodeRowC
  generalize word16 b3 b2 = w
  generalize word16 c3 c2 = w'
  rcases lo with _ | _ | _ | _ | _ | _ | _ | _ | _ | _ | _ | _ | _ | _ | _ | _ <;> exact ⟨rfl, rfl, rfl⟩

theorem sameOpcode_rowD (lo : Nat) (b2 b3 c2 c3 : Byte) : sameOpcode (decodeRowD lo b2 b3) (decodeRowD lo c2 c3) := by
  unfold decodeRowD
  generalize word16 b3 b2 = w
  generalize word16 c3 c2 = w'
  rcases lo with _ | _ | _ | _ | _ | _ | _ | _ | _ | _ | _ | _ | _ | _ | _ | _ <;> exact ⟨rfl, rfl, rfl⟩

theorem sameOpcode_rowE (lo : Nat) (b2 b3 c2 c3 : Byte) : sameOpcode (decodeRowE lo b2 b3) (decodeRowE lo c2 c3) := by
  unfold decodeRowE
  generalize word16 b3 b2 = w
  generalize word16 c3 c2 = w'
  rcases lo with _ | _ | _ | _ | _ | _ | _ | _ | _ | _ | _ | _ | _ | _ | _ | _ <;> exact ⟨rfl, rfl, rfl⟩

theorem sameOpcode_rowF (lo : Nat) (b2 b3 c2 c3 : Byte) : sameOpcode (decodeRowF lo b2 b3) (decodeRowF lo c2 c3) := by
  unfold decodeRowF
  generalize word16 b3 b2 = w
  generalize word16 c3 c2 = w'
  rcases lo with _ | _ | _ | _ | _ | _ | _ | _ | _ | _ | _ | _ | _ | _ | _ | _ <;> exact ⟨rfl, rfl, rfl⟩

/-- Mnemonic, length and kind come from the opcode byte alone (R80, R82, R94). -/
theorem sameOpcode_decodeOp (op b2 b3 c2 c3 : Byte) : sameOpcode (decodeOp op b2 b3) (decodeOp op c2 c3) := by
  unfold decodeOp
  split
  · exact sameOpcode_row0 _ _ _ _ _
  · exact sameOpcode_row1 _ _ _ _ _
  · exact sameOpcode_row2 _ _ _ _ _
  · exact sameOpcode_row3 _ _ _ _ _
  · exact sameOpcode_row4 _ _ _ _ _
  · exact sameOpcode_row5 _ _ _ _ _
  · exact sameOpcode_row6 _ _ _ _ _
  · exact sameOpcode_row7 _ _ _ _ _
  · exact sameOpcode_row8 _ _ _ _ _
  · exact sameOpcode_row9 _ _ _ _ _
  · exact sameOpcode_rowA _ _ _ _ _
  · exact sameOpcode_rowB _ _ _ _ _
  · exact sameOpcode_rowC _ _ _ _ _
  · exact sameOpcode_rowD _ _ _ _ _
  · exact sameOpcode_rowE _ _ _ _ _
  · exact sameOpcode_rowF _ _ _ _ _

/-- No instruction is longer than three bytes (R82). -/
theorem operandLength_le (i : Instr) : i.operandLength ≤ 2 := by
  cases i <;> first | exact Nat.zero_le 2 | exact Nat.le_succ 1 | exact Nat.le_refl 2

end Sys2Proof
end

