-- ==== Sys2Proof/Laws/State.lean ====
section
/-! SUPPORT. One lemma for each field after each update of the state, and for each register after each write. -/

namespace Sys2Proof.Machine

/-! A setter sets its field and no other. -/

@[simp] theorem State.setRegs_regs (s : State) (v : Regs) : (s.setRegs v).regs = v := rfl
@[simp] theorem State.setRegs_flags (s : State) (v : Regs) : (s.setRegs v).flags = s.flags := rfl
@[simp] theorem State.setRegs_pc (s : State) (v : Regs) : (s.setRegs v).pc = s.pc := rfl
@[simp] theorem State.setRegs_sp (s : State) (v : Regs) : (s.setRegs v).sp = s.sp := rfl
@[simp] theorem State.setRegs_ie (s : State) (v : Regs) : (s.setRegs v).ie = s.ie := rfl
@[simp] theorem State.setRegs_run (s : State) (v : Regs) : (s.setRegs v).run = s.run := rfl
@[simp] theorem State.setRegs_mem (s : State) (v : Regs) : (s.setRegs v).mem = s.mem := rfl
@[simp] theorem State.setRegs_params (s : State) (v : Regs) : (s.setRegs v).params = s.params := rfl
@[simp] theorem State.setRegs_env (s : State) (v : Regs) : (s.setRegs v).env = s.env := rfl
@[simp] theorem State.setFlags_regs (s : State) (v : Flags) : (s.setFlags v).regs = s.regs := rfl
@[simp] theorem State.setFlags_flags (s : State) (v : Flags) : (s.setFlags v).flags = v := rfl
@[simp] theorem State.setFlags_pc (s : State) (v : Flags) : (s.setFlags v).pc = s.pc := rfl
@[simp] theorem State.setFlags_sp (s : State) (v : Flags) : (s.setFlags v).sp = s.sp := rfl
@[simp] theorem State.setFlags_ie (s : State) (v : Flags) : (s.setFlags v).ie = s.ie := rfl
@[simp] theorem State.setFlags_run (s : State) (v : Flags) : (s.setFlags v).run = s.run := rfl
@[simp] theorem State.setFlags_mem (s : State) (v : Flags) : (s.setFlags v).mem = s.mem := rfl
@[simp] theorem State.setFlags_params (s : State) (v : Flags) : (s.setFlags v).params = s.params := rfl
@[simp] theorem State.setFlags_env (s : State) (v : Flags) : (s.setFlags v).env = s.env := rfl
@[simp] theorem State.setPc_regs (s : State) (v : Addr) : (s.setPc v).regs = s.regs := rfl
@[simp] theorem State.setPc_flags (s : State) (v : Addr) : (s.setPc v).flags = s.flags := rfl
@[simp] theorem State.setPc_pc (s : State) (v : Addr) : (s.setPc v).pc = v := rfl
@[simp] theorem State.setPc_sp (s : State) (v : Addr) : (s.setPc v).sp = s.sp := rfl
@[simp] theorem State.setPc_ie (s : State) (v : Addr) : (s.setPc v).ie = s.ie := rfl
@[simp] theorem State.setPc_run (s : State) (v : Addr) : (s.setPc v).run = s.run := rfl
@[simp] theorem State.setPc_mem (s : State) (v : Addr) : (s.setPc v).mem = s.mem := rfl
@[simp] theorem State.setPc_params (s : State) (v : Addr) : (s.setPc v).params = s.params := rfl
@[simp] theorem State.setPc_env (s : State) (v : Addr) : (s.setPc v).env = s.env := rfl
@[simp] theorem State.setSp_regs (s : State) (v : Addr) : (s.setSp v).regs = s.regs := rfl
@[simp] theorem State.setSp_flags (s : State) (v : Addr) : (s.setSp v).flags = s.flags := rfl
@[simp] theorem State.setSp_pc (s : State) (v : Addr) : (s.setSp v).pc = s.pc := rfl
@[simp] theorem State.setSp_sp (s : State) (v : Addr) : (s.setSp v).sp = v := rfl
@[simp] theorem State.setSp_ie (s : State) (v : Addr) : (s.setSp v).ie = s.ie := rfl
@[simp] theorem State.setSp_run (s : State) (v : Addr) : (s.setSp v).run = s.run := rfl
@[simp] theorem State.setSp_mem (s : State) (v : Addr) : (s.setSp v).mem = s.mem := rfl
@[simp] theorem State.setSp_params (s : State) (v : Addr) : (s.setSp v).params = s.params := rfl
@[simp] theorem State.setSp_env (s : State) (v : Addr) : (s.setSp v).env = s.env := rfl
@[simp] theorem State.setIe_regs (s : State) (v : Bool) : (s.setIe v).regs = s.regs := rfl
@[simp] theorem State.setIe_flags (s : State) (v : Bool) : (s.setIe v).flags = s.flags := rfl
@[simp] theorem State.setIe_pc (s : State) (v : Bool) : (s.setIe v).pc = s.pc := rfl
@[simp] theorem State.setIe_sp (s : State) (v : Bool) : (s.setIe v).sp = s.sp := rfl
@[simp] theorem State.setIe_ie (s : State) (v : Bool) : (s.setIe v).ie = v := rfl
@[simp] theorem State.setIe_run (s : State) (v : Bool) : (s.setIe v).run = s.run := rfl
@[simp] theorem State.setIe_mem (s : State) (v : Bool) : (s.setIe v).mem = s.mem := rfl
@[simp] theorem State.setIe_params (s : State) (v : Bool) : (s.setIe v).params = s.params := rfl
@[simp] theorem State.setIe_env (s : State) (v : Bool) : (s.setIe v).env = s.env := rfl
@[simp] theorem State.setRun_regs (s : State) (v : RunState) : (s.setRun v).regs = s.regs := rfl
@[simp] theorem State.setRun_flags (s : State) (v : RunState) : (s.setRun v).flags = s.flags := rfl
@[simp] theorem State.setRun_pc (s : State) (v : RunState) : (s.setRun v).pc = s.pc := rfl
@[simp] theorem State.setRun_sp (s : State) (v : RunState) : (s.setRun v).sp = s.sp := rfl
@[simp] theorem State.setRun_ie (s : State) (v : RunState) : (s.setRun v).ie = s.ie := rfl
@[simp] theorem State.setRun_run (s : State) (v : RunState) : (s.setRun v).run = v := rfl
@[simp] theorem State.setRun_mem (s : State) (v : RunState) : (s.setRun v).mem = s.mem := rfl
@[simp] theorem State.setRun_params (s : State) (v : RunState) : (s.setRun v).params = s.params := rfl
@[simp] theorem State.setRun_env (s : State) (v : RunState) : (s.setRun v).env = s.env := rfl
@[simp] theorem State.setMem_regs (s : State) (v : Memory) : (s.setMem v).regs = s.regs := rfl
@[simp] theorem State.setMem_flags (s : State) (v : Memory) : (s.setMem v).flags = s.flags := rfl
@[simp] theorem State.setMem_pc (s : State) (v : Memory) : (s.setMem v).pc = s.pc := rfl
@[simp] theorem State.setMem_sp (s : State) (v : Memory) : (s.setMem v).sp = s.sp := rfl
@[simp] theorem State.setMem_ie (s : State) (v : Memory) : (s.setMem v).ie = s.ie := rfl
@[simp] theorem State.setMem_run (s : State) (v : Memory) : (s.setMem v).run = s.run := rfl
@[simp] theorem State.setMem_mem (s : State) (v : Memory) : (s.setMem v).mem = v := rfl
@[simp] theorem State.setMem_params (s : State) (v : Memory) : (s.setMem v).params = s.params := rfl
@[simp] theorem State.setMem_env (s : State) (v : Memory) : (s.setMem v).env = s.env := rfl
@[simp] theorem State.setParams_regs (s : State) (v : Params) : (s.setParams v).regs = s.regs := rfl
@[simp] theorem State.setParams_flags (s : State) (v : Params) : (s.setParams v).flags = s.flags := rfl
@[simp] theorem State.setParams_pc (s : State) (v : Params) : (s.setParams v).pc = s.pc := rfl
@[simp] theorem State.setParams_sp (s : State) (v : Params) : (s.setParams v).sp = s.sp := rfl
@[simp] theorem State.setParams_ie (s : State) (v : Params) : (s.setParams v).ie = s.ie := rfl
@[simp] theorem State.setParams_run (s : State) (v : Params) : (s.setParams v).run = s.run := rfl
@[simp] theorem State.setParams_mem (s : State) (v : Params) : (s.setParams v).mem = s.mem := rfl
@[simp] theorem State.setParams_params (s : State) (v : Params) : (s.setParams v).params = v := rfl
@[simp] theorem State.setParams_env (s : State) (v : Params) : (s.setParams v).env = s.env := rfl
@[simp] theorem State.setEnv_regs (s : State) (v : Env) : (s.setEnv v).regs = s.regs := rfl
@[simp] theorem State.setEnv_flags (s : State) (v : Env) : (s.setEnv v).flags = s.flags := rfl
@[simp] theorem State.setEnv_pc (s : State) (v : Env) : (s.setEnv v).pc = s.pc := rfl
@[simp] theorem State.setEnv_sp (s : State) (v : Env) : (s.setEnv v).sp = s.sp := rfl
@[simp] theorem State.setEnv_ie (s : State) (v : Env) : (s.setEnv v).ie = s.ie := rfl
@[simp] theorem State.setEnv_run (s : State) (v : Env) : (s.setEnv v).run = s.run := rfl
@[simp] theorem State.setEnv_mem (s : State) (v : Env) : (s.setEnv v).mem = s.mem := rfl
@[simp] theorem State.setEnv_params (s : State) (v : Env) : (s.setEnv v).params = s.params := rfl
@[simp] theorem State.setEnv_env (s : State) (v : Env) : (s.setEnv v).env = v := rfl

/-! A register write. -/

@[simp] theorem State.setReg_regs (s : State) (r : Reg) (v : Byte) : (s.setReg r v).regs = s.regs.set r v := rfl
@[simp] theorem State.setReg_flags (s : State) (r : Reg) (v : Byte) : (s.setReg r v).flags = s.flags := rfl
@[simp] theorem State.setReg_pc (s : State) (r : Reg) (v : Byte) : (s.setReg r v).pc = s.pc := rfl
@[simp] theorem State.setReg_sp (s : State) (r : Reg) (v : Byte) : (s.setReg r v).sp = s.sp := rfl
@[simp] theorem State.setReg_ie (s : State) (r : Reg) (v : Byte) : (s.setReg r v).ie = s.ie := rfl
@[simp] theorem State.setReg_run (s : State) (r : Reg) (v : Byte) : (s.setReg r v).run = s.run := rfl
@[simp] theorem State.setReg_mem (s : State) (r : Reg) (v : Byte) : (s.setReg r v).mem = s.mem := rfl
@[simp] theorem State.setReg_params (s : State) (r : Reg) (v : Byte) : (s.setReg r v).params = s.params := rfl
@[simp] theorem State.setReg_env (s : State) (r : Reg) (v : Byte) : (s.setReg r v).env = s.env := rfl

/-- A register reads as what was last written to it, and as before where another was written. -/
@[simp] theorem Regs.get_set (g : Regs) (r r' : Reg) (v : Byte) :
    (g.set r v).get r' = if r' = r then v else g.get r' := by
  cases r <;> cases r' <;> rfl

/-! The seven fields are what `get` reads. -/

theorem Regs.get_a (g : Regs) : g.get .a = g.a := rfl
theorem Regs.get_b (g : Regs) : g.get .b = g.b := rfl
theorem Regs.get_c (g : Regs) : g.get .c = g.c := rfl
theorem Regs.get_d (g : Regs) : g.get .d = g.d := rfl
theorem Regs.get_e (g : Regs) : g.get .e = g.e := rfl
theorem Regs.get_h (g : Regs) : g.get .h = g.h := rfl
theorem Regs.get_l (g : Regs) : g.get .l = g.l := rfl

/-! The PC advance. -/

@[simp] theorem State.advance_pc (s : State) (n : Nat) : (s.advance n).pc = s.pc + BitVec.ofNat 16 n := rfl
@[simp] theorem State.advance_regs (s : State) (n : Nat) : (s.advance n).regs = s.regs := rfl
@[simp] theorem State.advance_flags (s : State) (n : Nat) : (s.advance n).flags = s.flags := rfl
@[simp] theorem State.advance_sp (s : State) (n : Nat) : (s.advance n).sp = s.sp := rfl
@[simp] theorem State.advance_ie (s : State) (n : Nat) : (s.advance n).ie = s.ie := rfl
@[simp] theorem State.advance_run (s : State) (n : Nat) : (s.advance n).run = s.run := rfl
@[simp] theorem State.advance_mem (s : State) (n : Nat) : (s.advance n).mem = s.mem := rfl
@[simp] theorem State.advance_params (s : State) (n : Nat) : (s.advance n).params = s.params := rfl
@[simp] theorem State.advance_env (s : State) (n : Nat) : (s.advance n).env = s.env := rfl

/-! Writing two registers, and the three pairs (R22). -/

@[simp] theorem State.setTwo_flags (s : State) (hi lo : Reg) (v : Addr) : (s.setTwo hi lo v).flags = s.flags := rfl
@[simp] theorem State.setTwo_pc (s : State) (hi lo : Reg) (v : Addr) : (s.setTwo hi lo v).pc = s.pc := rfl
@[simp] theorem State.setTwo_sp (s : State) (hi lo : Reg) (v : Addr) : (s.setTwo hi lo v).sp = s.sp := rfl
@[simp] theorem State.setTwo_ie (s : State) (hi lo : Reg) (v : Addr) : (s.setTwo hi lo v).ie = s.ie := rfl
@[simp] theorem State.setTwo_run (s : State) (hi lo : Reg) (v : Addr) : (s.setTwo hi lo v).run = s.run := rfl
@[simp] theorem State.setTwo_mem (s : State) (hi lo : Reg) (v : Addr) : (s.setTwo hi lo v).mem = s.mem := rfl
@[simp] theorem State.setTwo_params (s : State) (hi lo : Reg) (v : Addr) : (s.setTwo hi lo v).params = s.params := rfl
@[simp] theorem State.setTwo_env (s : State) (hi lo : Reg) (v : Addr) : (s.setTwo hi lo v).env = s.env := rfl
@[simp] theorem State.setTwo_regs (s : State) (hi lo : Reg) (v : Addr) :
    (s.setTwo hi lo v).regs = (s.regs.set hi (hiByte v)).set lo (loByte v) := rfl

@[simp] theorem State.setBc_flags (s : State) (v : Addr) : (s.setBc v).flags = s.flags := rfl
@[simp] theorem State.setBc_pc (s : State) (v : Addr) : (s.setBc v).pc = s.pc := rfl
@[simp] theorem State.setBc_sp (s : State) (v : Addr) : (s.setBc v).sp = s.sp := rfl
@[simp] theorem State.setBc_ie (s : State) (v : Addr) : (s.setBc v).ie = s.ie := rfl
@[simp] theorem State.setBc_run (s : State) (v : Addr) : (s.setBc v).run = s.run := rfl
@[simp] theorem State.setBc_mem (s : State) (v : Addr) : (s.setBc v).mem = s.mem := rfl
@[simp] theorem State.setBc_params (s : State) (v : Addr) : (s.setBc v).params = s.params := rfl
@[simp] theorem State.setBc_env (s : State) (v : Addr) : (s.setBc v).env = s.env := rfl
@[simp] theorem State.setBc_regs (s : State) (v : Addr) :
    (s.setBc v).regs = (s.regs.set .b (hiByte v)).set .c (loByte v) := rfl
@[simp] theorem State.setDe_flags (s : State) (v : Addr) : (s.setDe v).flags = s.flags := rfl
@[simp] theorem State.setDe_pc (s : State) (v : Addr) : (s.setDe v).pc = s.pc := rfl
@[simp] theorem State.setDe_sp (s : State) (v : Addr) : (s.setDe v).sp = s.sp := rfl
@[simp] theorem State.setDe_ie (s : State) (v : Addr) : (s.setDe v).ie = s.ie := rfl
@[simp] theorem State.setDe_run (s : State) (v : Addr) : (s.setDe v).run = s.run := rfl
@[simp] theorem State.setDe_mem (s : State) (v : Addr) : (s.setDe v).mem = s.mem := rfl
@[simp] theorem State.setDe_params (s : State) (v : Addr) : (s.setDe v).params = s.params := rfl
@[simp] theorem State.setDe_env (s : State) (v : Addr) : (s.setDe v).env = s.env := rfl
@[simp] theorem State.setDe_regs (s : State) (v : Addr) :
    (s.setDe v).regs = (s.regs.set .d (hiByte v)).set .e (loByte v) := rfl
@[simp] theorem State.setHl_flags (s : State) (v : Addr) : (s.setHl v).flags = s.flags := rfl
@[simp] theorem State.setHl_pc (s : State) (v : Addr) : (s.setHl v).pc = s.pc := rfl
@[simp] theorem State.setHl_sp (s : State) (v : Addr) : (s.setHl v).sp = s.sp := rfl
@[simp] theorem State.setHl_ie (s : State) (v : Addr) : (s.setHl v).ie = s.ie := rfl
@[simp] theorem State.setHl_run (s : State) (v : Addr) : (s.setHl v).run = s.run := rfl
@[simp] theorem State.setHl_mem (s : State) (v : Addr) : (s.setHl v).mem = s.mem := rfl
@[simp] theorem State.setHl_params (s : State) (v : Addr) : (s.setHl v).params = s.params := rfl
@[simp] theorem State.setHl_env (s : State) (v : Addr) : (s.setHl v).env = s.env := rfl
@[simp] theorem State.setHl_regs (s : State) (v : Addr) :
    (s.setHl v).regs = (s.regs.set .h (hiByte v)).set .l (loByte v) := rfl

/-! Memory, stack and input writes leave the fields they do not name. -/

@[simp] theorem State.writeByte_mem (s : State) (a : Addr) (v : Byte) :
    (s.writeByte a v).mem = Memory.write s.params.resetMemoryByte s.mem a v := rfl
@[simp] theorem State.writeByte_regs (s : State) (a : Addr) (v : Byte) : (s.writeByte a v).regs = s.regs := rfl
@[simp] theorem State.writeByte_flags (s : State) (a : Addr) (v : Byte) : (s.writeByte a v).flags = s.flags := rfl
@[simp] theorem State.writeByte_pc (s : State) (a : Addr) (v : Byte) : (s.writeByte a v).pc = s.pc := rfl
@[simp] theorem State.writeByte_sp (s : State) (a : Addr) (v : Byte) : (s.writeByte a v).sp = s.sp := rfl
@[simp] theorem State.writeByte_ie (s : State) (a : Addr) (v : Byte) : (s.writeByte a v).ie = s.ie := rfl
@[simp] theorem State.writeByte_run (s : State) (a : Addr) (v : Byte) : (s.writeByte a v).run = s.run := rfl
@[simp] theorem State.writeByte_params (s : State) (a : Addr) (v : Byte) : (s.writeByte a v).params = s.params := rfl
@[simp] theorem State.writeByte_env (s : State) (a : Addr) (v : Byte) : (s.writeByte a v).env = s.env := rfl
@[simp] theorem State.writeWord_regs (s : State) (a v : Addr) : (s.writeWord a v).regs = s.regs := rfl
@[simp] theorem State.writeWord_flags (s : State) (a v : Addr) : (s.writeWord a v).flags = s.flags := rfl
@[simp] theorem State.writeWord_pc (s : State) (a v : Addr) : (s.writeWord a v).pc = s.pc := rfl
@[simp] theorem State.writeWord_sp (s : State) (a v : Addr) : (s.writeWord a v).sp = s.sp := rfl
@[simp] theorem State.writeWord_ie (s : State) (a v : Addr) : (s.writeWord a v).ie = s.ie := rfl
@[simp] theorem State.writeWord_run (s : State) (a v : Addr) : (s.writeWord a v).run = s.run := rfl
@[simp] theorem State.writeWord_params (s : State) (a v : Addr) : (s.writeWord a v).params = s.params := rfl
@[simp] theorem State.writeWord_env (s : State) (a v : Addr) : (s.writeWord a v).env = s.env := rfl
@[simp] theorem State.push16_regs (s : State) (v : Addr) : (s.push16 v).regs = s.regs := rfl
@[simp] theorem State.push16_flags (s : State) (v : Addr) : (s.push16 v).flags = s.flags := rfl
@[simp] theorem State.push16_pc (s : State) (v : Addr) : (s.push16 v).pc = s.pc := rfl
@[simp] theorem State.push16_ie (s : State) (v : Addr) : (s.push16 v).ie = s.ie := rfl
@[simp] theorem State.push16_run (s : State) (v : Addr) : (s.push16 v).run = s.run := rfl
@[simp] theorem State.push16_params (s : State) (v : Addr) : (s.push16 v).params = s.params := rfl
@[simp] theorem State.push16_env (s : State) (v : Addr) : (s.push16 v).env = s.env := rfl
@[simp] theorem State.push16_sp (s : State) (v : Addr) : (s.push16 v).sp = s.sp - 2 := rfl
@[simp] theorem State.dropTop_regs (s : State) : s.dropTop.regs = s.regs := rfl
@[simp] theorem State.dropTop_flags (s : State) : s.dropTop.flags = s.flags := rfl
@[simp] theorem State.dropTop_pc (s : State) : s.dropTop.pc = s.pc := rfl
@[simp] theorem State.dropTop_ie (s : State) : s.dropTop.ie = s.ie := rfl
@[simp] theorem State.dropTop_run (s : State) : s.dropTop.run = s.run := rfl
@[simp] theorem State.dropTop_mem (s : State) : s.dropTop.mem = s.mem := rfl
@[simp] theorem State.dropTop_params (s : State) : s.dropTop.params = s.params := rfl
@[simp] theorem State.dropTop_env (s : State) : s.dropTop.env = s.env := rfl
@[simp] theorem State.dropTop_sp (s : State) : s.dropTop.sp = s.sp + 2 := rfl
@[simp] theorem State.enterAt_regs (s : State) (ret target : Addr) : (s.enterAt ret target).regs = (s.push16 ret).regs := rfl
@[simp] theorem State.enterAt_flags (s : State) (ret target : Addr) : (s.enterAt ret target).flags = (s.push16 ret).flags := rfl
@[simp] theorem State.enterAt_ie (s : State) (ret target : Addr) : (s.enterAt ret target).ie = (s.push16 ret).ie := rfl
@[simp] theorem State.enterAt_run (s : State) (ret target : Addr) : (s.enterAt ret target).run = (s.push16 ret).run := rfl
@[simp] theorem State.enterAt_mem (s : State) (ret target : Addr) : (s.enterAt ret target).mem = (s.push16 ret).mem := rfl
@[simp] theorem State.enterAt_params (s : State) (ret target : Addr) : (s.enterAt ret target).params = (s.push16 ret).params := rfl
@[simp] theorem State.enterAt_env (s : State) (ret target : Addr) : (s.enterAt ret target).env = (s.push16 ret).env := rfl
@[simp] theorem State.enterAt_pc (s : State) (ret target : Addr) : (s.enterAt ret target).pc = target := rfl
@[simp] theorem State.enterAt_sp (s : State) (ret target : Addr) : (s.enterAt ret target).sp = s.sp - 2 := rfl
@[simp] theorem State.setIrqInput_regs (s : State) (rest : List (Option Addr)) : (s.setIrqInput rest).regs = s.regs := rfl
@[simp] theorem State.setIrqInput_flags (s : State) (rest : List (Option Addr)) : (s.setIrqInput rest).flags = s.flags := rfl
@[simp] theorem State.setIrqInput_pc (s : State) (rest : List (Option Addr)) : (s.setIrqInput rest).pc = s.pc := rfl
@[simp] theorem State.setIrqInput_sp (s : State) (rest : List (Option Addr)) : (s.setIrqInput rest).sp = s.sp := rfl
@[simp] theorem State.setIrqInput_ie (s : State) (rest : List (Option Addr)) : (s.setIrqInput rest).ie = s.ie := rfl
@[simp] theorem State.setIrqInput_run (s : State) (rest : List (Option Addr)) : (s.setIrqInput rest).run = s.run := rfl
@[simp] theorem State.setIrqInput_mem (s : State) (rest : List (Option Addr)) : (s.setIrqInput rest).mem = s.mem := rfl
@[simp] theorem State.setIrqInput_params (s : State) (rest : List (Option Addr)) : (s.setIrqInput rest).params = s.params := rfl
@[simp] theorem State.portReadDone_regs (s : State) (port : Byte) : (s.portReadDone port).regs = s.regs := rfl
@[simp] theorem State.portReadDone_flags (s : State) (port : Byte) : (s.portReadDone port).flags = s.flags := rfl
@[simp] theorem State.portReadDone_pc (s : State) (port : Byte) : (s.portReadDone port).pc = s.pc := rfl
@[simp] theorem State.portReadDone_sp (s : State) (port : Byte) : (s.portReadDone port).sp = s.sp := rfl
@[simp] theorem State.portReadDone_ie (s : State) (port : Byte) : (s.portReadDone port).ie = s.ie := rfl
@[simp] theorem State.portReadDone_run (s : State) (port : Byte) : (s.portReadDone port).run = s.run := rfl
@[simp] theorem State.portReadDone_mem (s : State) (port : Byte) : (s.portReadDone port).mem = s.mem := rfl
@[simp] theorem State.portReadDone_params (s : State) (port : Byte) : (s.portReadDone port).params = s.params := rfl
@[simp] theorem State.portWrite_regs (s : State) (port v : Byte) : (s.portWrite port v).regs = s.regs := by
  unfold State.portWrite; split <;> rfl
@[simp] theorem State.portWrite_flags (s : State) (port v : Byte) : (s.portWrite port v).flags = s.flags := by
  unfold State.portWrite; split <;> rfl
@[simp] theorem State.portWrite_pc (s : State) (port v : Byte) : (s.portWrite port v).pc = s.pc := by
  unfold State.portWrite; split <;> rfl
@[simp] theorem State.portWrite_sp (s : State) (port v : Byte) : (s.portWrite port v).sp = s.sp := by
  unfold State.portWrite; split <;> rfl
@[simp] theorem State.portWrite_ie (s : State) (port v : Byte) : (s.portWrite port v).ie = s.ie := by
  unfold State.portWrite; split <;> rfl
@[simp] theorem State.portWrite_run (s : State) (port v : Byte) : (s.portWrite port v).run = s.run := by
  unfold State.portWrite; split <;> rfl
@[simp] theorem State.portWrite_mem (s : State) (port v : Byte) : (s.portWrite port v).mem = s.mem := by
  unfold State.portWrite; split <;> rfl
@[simp] theorem State.portWrite_params (s : State) (port v : Byte) : (s.portWrite port v).params = s.params := by
  unfold State.portWrite; split <;> rfl

end Sys2Proof.Machine
end

