-- ==== Sys2Proof/Laws/Flags.lean ====
section
/-! SUPPORT. The flag functions and the ALU functions, each in one equation over numbers. -/

namespace Sys2Proof.Machine

theorem zeroFlag_byte (v : Byte) : zeroFlag v.toNat 8 = decide (v = 0) := by
  have := v.isLt
  simp only [zeroFlag, decide_eq_decide, ← BitVec.toNat_inj, BitVec.ofNat_eq_ofNat, BitVec.toNat_ofNat]
  omega

theorem signFlag_byte (v : Byte) : signFlag v = decide (128 ≤ v.toNat) := by
  have h : ∀ w : Byte, signFlag w = decide (128 ≤ w.toNat) := by decide
  exact h v

theorem auxCarryAdd_eq (a b : Byte) (c : Nat) :
    auxCarryAdd a b c = decide (16 ≤ a.toNat % 16 + b.toNat % 16 + c) := by
  simp only [auxCarryAdd, decide_eq_decide]
  simp only [lowNibble]
  omega

theorem auxCarrySub_eq (a b : Byte) (c : Nat) (hc : c ≤ 1) :
    auxCarrySub a b c = decide (b.toNat % 16 + c ≤ a.toNat % 16) := by
  simp only [auxCarrySub, decide_eq_decide]
  simp only [lowNibble]
  omega

theorem carryFlagAdd_byte (n : Nat) : carryFlagAdd n 8 = decide (256 ≤ n) := by
  simp only [carryFlagAdd, decide_eq_decide]
  omega

theorem carryFlagAdd_word (n : Nat) : carryFlagAdd n 16 = decide (65536 ≤ n) := by
  simp only [carryFlagAdd, decide_eq_decide]
  omega

/-- The 8-bit difference, as a sum of naturals. -/
theorem difference_byte (a b : Byte) (c : Nat) (hc : c ≤ 1) :
    BitVec.ofInt 8 ((a.toNat : Int) - (b.toNat : Int) - (c : Int)) = BitVec.ofNat 8 (a.toNat + 512 - b.toNat - c) := by
  have := a.isLt
  have := b.isLt
  apply BitVec.eq_of_toNat_eq
  simp only [BitVec.toNat_ofInt, BitVec.toNat_ofNat]
  omega

/-! The flags each function leaves unwritten, and `val`. -/

@[simp] theorem Flags.setZSP_cy (f : Flags) (v : Byte) : (f.setZSP v).cy = f.cy := rfl
@[simp] theorem Flags.setZSP_ac (f : Flags) (v : Byte) : (f.setZSP v).ac = f.ac := rfl
@[simp] theorem inc8_cy (a : Byte) (f : Flags) : (inc8 a f).flags.cy = f.cy := rfl
@[simp] theorem dec8_cy (a : Byte) (f : Flags) : (dec8 a f).flags.cy = f.cy := rfl

/-- The increment of a byte. -/
theorem inc8_val (a : Byte) (f : Flags) : (inc8 a f).val = a + 1 := by
  apply BitVec.eq_of_toNat_eq
  simp [inc8]

/-- The decrement of a byte. -/
theorem dec8_val (a : Byte) (f : Flags) : (dec8 a f).val = a - 1 := by
  apply BitVec.eq_of_toNat_eq
  have := a.isLt
  simp only [dec8, BitVec.toNat_ofInt, BitVec.toNat_sub, BitVec.ofNat_eq_ofNat, BitVec.toNat_ofNat]
  omega

/-! The PSW byte. -/

/-- The flags read back from their PSW byte (R38). -/
@[simp] theorem Flags.ofPswByte_pswByte (f : Flags) : Flags.ofPswByte f.pswByte = f := by
  obtain ⟨z, s, p, cy, ac⟩ := f
  cases z <;> cases s <;> cases p <;> cases cy <;> cases ac <;> rfl

end Sys2Proof.Machine
end

