-- ==== Sys2Proof/Laws/Forms.lean ====
section
/-! SUPPORT. The 48 shared operations that the 244 instructions are made of. A rule about `exec` for every instruction is
proved by cases of these forms: rewrite with `exec_eq_run`, `kind_eq` and `operandLength_eq`, then `cases i.form`. -/

namespace Sys2Proof.Machine

/-- A shared operation and its arguments. -/
inductive Form where
  | noOp
  | loadPairImmediate (p : Pair) (d16 : Addr)
  | storeAccIndirect (p : IndPair)
  | pairIncrement (p : Pair)
  | incrementRegister (r : Reg)
  | decrementRegister (r : Reg)
  | moveImmediate (r : Reg) (d8 : Byte)
  | rotate (op : RotateOp)
  | pairAdd (p : Pair)
  | loadAccIndirect (p : IndPair)
  | pairDecrement (p : Pair)
  | storeHLDirect (a16 : Addr)
  | decimalAdjust
  | loadHLDirect (a16 : Addr)
  | complementAcc
  | storeAccDirect (a16 : Addr)
  | incrementMemory
  | decrementMemory
  | moveImmediateToMemory (d8 : Byte)
  | setCarry
  | loadAccDirect (a16 : Addr)
  | complementCarry
  | moveRegister (dst src : Reg)
  | moveFromMemory (dst : Reg)
  | moveToMemory (src : Reg)
  | halt
  | aluRegister (op : AluOp) (src : Reg)
  | aluMemory (op : AluOp)
  | conditionalReturn (cond : Cond)
  | pop (p : StackPair)
  | conditionalJump (cond : Cond) (a16 : Addr)
  | jump (a16 : Addr)
  | conditionalCall (cond : Cond) (a16 : Addr)
  | push (p : StackPair)
  | aluImmediate (op : AluOp) (d8 : Byte)
  | restart (n : Fin 8)
  | returnFromCall
  | call (a16 : Addr)
  | output (d8 : Byte)
  | input (d8 : Byte)
  | exchangeStackTop
  | jumpHL
  | exchangeHLDE
  | popPSW
  | disableInterrupts
  | pushPSW
  | loadSPFromHL
  | enableInterrupts

/-- The form of an instruction. -/
def formOf : Instr → Form
  | .nop _ => .noOp
  | .lxiB d16 => .loadPairImmediate .bc d16
  | .staxB => .storeAccIndirect .bc
  | .inxB => .pairIncrement .bc
  | .inrB => .incrementRegister .b
  | .dcrB => .decrementRegister .b
  | .mviB d8 => .moveImmediate .b d8
  | .rlc => .rotate .rlc
  | .dadB => .pairAdd .bc
  | .ldaxB => .loadAccIndirect .bc
  | .dcxB => .pairDecrement .bc
  | .inrC => .incrementRegister .c
  | .dcrC => .decrementRegister .c
  | .mviC d8 => .moveImmediate .c d8
  | .rrc => .rotate .rrc
  | .lxiD d16 => .loadPairImmediate .de d16
  | .staxD => .storeAccIndirect .de
  | .inxD => .pairIncrement .de
  | .inrD => .incrementRegister .d
  | .dcrD => .decrementRegister .d
  | .mviD d8 => .moveImmediate .d d8
  | .ral => .rotate .ral
  | .dadD => .pairAdd .de
  | .ldaxD => .loadAccIndirect .de
  | .dcxD => .pairDecrement .de
  | .inrE => .incrementRegister .e
  | .dcrE => .decrementRegister .e
  | .mviE d8 => .moveImmediate .e d8
  | .rar => .rotate .rar
  | .lxiH d16 => .loadPairImmediate .hl d16
  | .shld a16 => .storeHLDirect a16
  | .inxH => .pairIncrement .hl
  | .inrH => .incrementRegister .h
  | .dcrH => .decrementRegister .h
  | .mviH d8 => .moveImmediate .h d8
  | .daa => .decimalAdjust
  | .dadH => .pairAdd .hl
  | .lhld a16 => .loadHLDirect a16
  | .dcxH => .pairDecrement .hl
  | .inrL => .incrementRegister .l
  | .dcrL => .decrementRegister .l
  | .mviL d8 => .moveImmediate .l d8
  | .cma => .complementAcc
  | .lxiSP d16 => .loadPairImmediate .sp d16
  | .sta a16 => .storeAccDirect a16
  | .inxSP => .pairIncrement .sp
  | .inrM => .incrementMemory
  | .dcrM => .decrementMemory
  | .mviM d8 => .moveImmediateToMemory d8
  | .stc => .setCarry
  | .dadSP => .pairAdd .sp
  | .lda a16 => .loadAccDirect a16
  | .dcxSP => .pairDecrement .sp
  | .inrA => .incrementRegister .a
  | .dcrA => .decrementRegister .a
  | .mviA d8 => .moveImmediate .a d8
  | .cmc => .complementCarry
  | .movBB => .moveRegister .b .b
  | .movBC => .moveRegister .b .c
  | .movBD => .moveRegister .b .d
  | .movBE => .moveRegister .b .e
  | .movBH => .moveRegister .b .h
  | .movBL => .moveRegister .b .l
  | .movBM => .moveFromMemory .b
  | .movBA => .moveRegister .b .a
  | .movCB => .moveRegister .c .b
  | .movCC => .moveRegister .c .c
  | .movCD => .moveRegister .c .d
  | .movCE => .moveRegister .c .e
  | .movCH => .moveRegister .c .h
  | .movCL => .moveRegister .c .l
  | .movCM => .moveFromMemory .c
  | .movCA => .moveRegister .c .a
  | .movDB => .moveRegister .d .b
  | .movDC => .moveRegister .d .c
  | .movDD => .moveRegister .d .d
  | .movDE => .moveRegister .d .e
  | .movDH => .moveRegister .d .h
  | .movDL => .moveRegister .d .l
  | .movDM => .moveFromMemory .d
  | .movDA => .moveRegister .d .a
  | .movEB => .moveRegister .e .b
  | .movEC => .moveRegister .e .c
  | .movED => .moveRegister .e .d
  | .movEE => .moveRegister .e .e
  | .movEH => .moveRegister .e .h
  | .movEL => .moveRegister .e .l
  | .movEM => .moveFromMemory .e
  | .movEA => .moveRegister .e .a
  | .movHB => .moveRegister .h .b
  | .movHC => .moveRegister .h .c
  | .movHD => .moveRegister .h .d
  | .movHE => .moveRegister .h .e
  | .movHH => .moveRegister .h .h
  | .movHL => .moveRegister .h .l
  | .movHM => .moveFromMemory .h
  | .movHA => .moveRegister .h .a
  | .movLB => .moveRegister .l .b
  | .movLC => .moveRegister .l .c
  | .movLD => .moveRegister .l .d
  | .movLE => .moveRegister .l .e
  | .movLH => .moveRegister .l .h
  | .movLL => .moveRegister .l .l
  | .movLM => .moveFromMemory .l
  | .movLA => .moveRegister .l .a
  | .movMB => .moveToMemory .b
  | .movMC => .moveToMemory .c
  | .movMD => .moveToMemory .d
  | .movME => .moveToMemory .e
  | .movMH => .moveToMemory .h
  | .movML => .moveToMemory .l
  | .hlt => .halt
  | .movMA => .moveToMemory .a
  | .movAB => .moveRegister .a .b
  | .movAC => .moveRegister .a .c
  | .movAD => .moveRegister .a .d
  | .movAE => .moveRegister .a .e
  | .movAH => .moveRegister .a .h
  | .movAL => .moveRegister .a .l
  | .movAM => .moveFromMemory .a
  | .movAA => .moveRegister .a .a
  | .addB => .aluRegister .add .b
  | .addC => .aluRegister .add .c
  | .addD => .aluRegister .add .d
  | .addE => .aluRegister .add .e
  | .addH => .aluRegister .add .h
  | .addL => .aluRegister .add .l
  | .addM => .aluMemory .add
  | .addA => .aluRegister .add .a
  | .adcB => .aluRegister .adc .b
  | .adcC => .aluRegister .adc .c
  | .adcD => .aluRegister .adc .d
  | .adcE => .aluRegister .adc .e
  | .adcH => .aluRegister .adc .h
  | .adcL => .aluRegister .adc .l
  | .adcM => .aluMemory .adc
  | .adcA => .aluRegister .adc .a
  | .subB => .aluRegister .sub .b
  | .subC => .aluRegister .sub .c
  | .subD => .aluRegister .sub .d
  | .subE => .aluRegister .sub .e
  | .subH => .aluRegister .sub .h
  | .subL => .aluRegister .sub .l
  | .subM => .aluMemory .sub
  | .subA => .aluRegister .sub .a
  | .sbbB => .aluRegister .sbb .b
  | .sbbC => .aluRegister .sbb .c
  | .sbbD => .aluRegister .sbb .d
  | .sbbE => .aluRegister .sbb .e
  | .sbbH => .aluRegister .sbb .h
  | .sbbL => .aluRegister .sbb .l
  | .sbbM => .aluMemory .sbb
  | .sbbA => .aluRegister .sbb .a
  | .anaB => .aluRegister .ana .b
  | .anaC => .aluRegister .ana .c
  | .anaD => .aluRegister .ana .d
  | .anaE => .aluRegister .ana .e
  | .anaH => .aluRegister .ana .h
  | .anaL => .aluRegister .ana .l
  | .anaM => .aluMemory .ana
  | .anaA => .aluRegister .ana .a
  | .xraB => .aluRegister .xra .b
  | .xraC => .aluRegister .xra .c
  | .xraD => .aluRegister .xra .d
  | .xraE => .aluRegister .xra .e
  | .xraH => .aluRegister .xra .h
  | .xraL => .aluRegister .xra .l
  | .xraM => .aluMemory .xra
  | .xraA => .aluRegister .xra .a
  | .oraB => .aluRegister .ora .b
  | .oraC => .aluRegister .ora .c
  | .oraD => .aluRegister .ora .d
  | .oraE => .aluRegister .ora .e
  | .oraH => .aluRegister .ora .h
  | .oraL => .aluRegister .ora .l
  | .oraM => .aluMemory .ora
  | .oraA => .aluRegister .ora .a
  | .cmpB => .aluRegister .cmp .b
  | .cmpC => .aluRegister .cmp .c
  | .cmpD => .aluRegister .cmp .d
  | .cmpE => .aluRegister .cmp .e
  | .cmpH => .aluRegister .cmp .h
  | .cmpL => .aluRegister .cmp .l
  | .cmpM => .aluMemory .cmp
  | .cmpA => .aluRegister .cmp .a
  | .rnz => .conditionalReturn .nz
  | .popB => .pop .bc
  | .jnz a16 => .conditionalJump .nz a16
  | .jmp _ a16 => .jump a16
  | .cnz a16 => .conditionalCall .nz a16
  | .pushB => .push .bc
  | .adi d8 => .aluImmediate .add d8
  | .rst0 => .restart 0
  | .rz => .conditionalReturn .z
  | .ret _ => .returnFromCall
  | .jz a16 => .conditionalJump .z a16
  | .cz a16 => .conditionalCall .z a16
  | .call _ a16 => .call a16
  | .aci d8 => .aluImmediate .adc d8
  | .rst1 => .restart 1
  | .rnc => .conditionalReturn .nc
  | .popD => .pop .de
  | .jnc a16 => .conditionalJump .nc a16
  | .outPort d8 => .output d8
  | .cnc a16 => .conditionalCall .nc a16
  | .pushD => .push .de
  | .sui d8 => .aluImmediate .sub d8
  | .rst2 => .restart 2
  | .rc => .conditionalReturn .c
  | .jc a16 => .conditionalJump .c a16
  | .inPort d8 => .input d8
  | .cc a16 => .conditionalCall .c a16
  | .sbi d8 => .aluImmediate .sbb d8
  | .rst3 => .restart 3
  | .rpo => .conditionalReturn .po
  | .popH => .pop .hl
  | .jpo a16 => .conditionalJump .po a16
  | .xthl => .exchangeStackTop
  | .cpo a16 => .conditionalCall .po a16
  | .pushH => .push .hl
  | .ani d8 => .aluImmediate .ana d8
  | .rst4 => .restart 4
  | .rpe => .conditionalReturn .pe
  | .pchl => .jumpHL
  | .jpe a16 => .conditionalJump .pe a16
  | .xchg => .exchangeHLDE
  | .cpe a16 => .conditionalCall .pe a16
  | .xri d8 => .aluImmediate .xra d8
  | .rst5 => .restart 5
  | .rp => .conditionalReturn .p
  | .popPSW => .popPSW
  | .jp a16 => .conditionalJump .p a16
  | .di => .disableInterrupts
  | .cp a16 => .conditionalCall .p a16
  | .pushPSW => .pushPSW
  | .ori d8 => .aluImmediate .ora d8
  | .rst6 => .restart 6
  | .rm => .conditionalReturn .m
  | .sphl => .loadSPFromHL
  | .jm a16 => .conditionalJump .m a16
  | .ei => .enableInterrupts
  | .cm a16 => .conditionalCall .m a16
  | .cpi d8 => .aluImmediate .cmp d8
  | .rst7 => .restart 7

/-- What a form does. -/
def Form.run : Form → State → Result
  | .noOp, s => Machine.noOp s
  | .loadPairImmediate p d16, s => Machine.loadPairImmediate p d16 s
  | .storeAccIndirect p, s => Machine.storeAccIndirect p s
  | .pairIncrement p, s => Machine.pairIncrement p s
  | .incrementRegister r, s => Machine.incrementRegister r s
  | .decrementRegister r, s => Machine.decrementRegister r s
  | .moveImmediate r d8, s => Machine.moveImmediate r d8 s
  | .rotate op, s => Machine.rotate op s
  | .pairAdd p, s => Machine.pairAdd p s
  | .loadAccIndirect p, s => Machine.loadAccIndirect p s
  | .pairDecrement p, s => Machine.pairDecrement p s
  | .storeHLDirect a16, s => Machine.storeHLDirect a16 s
  | .decimalAdjust, s => Machine.decimalAdjust s
  | .loadHLDirect a16, s => Machine.loadHLDirect a16 s
  | .complementAcc, s => Machine.complementAcc s
  | .storeAccDirect a16, s => Machine.storeAccDirect a16 s
  | .incrementMemory, s => Machine.incrementMemory s
  | .decrementMemory, s => Machine.decrementMemory s
  | .moveImmediateToMemory d8, s => Machine.moveImmediateToMemory d8 s
  | .setCarry, s => Machine.setCarry s
  | .loadAccDirect a16, s => Machine.loadAccDirect a16 s
  | .complementCarry, s => Machine.complementCarry s
  | .moveRegister dst src, s => Machine.moveRegister dst src s
  | .moveFromMemory dst, s => Machine.moveFromMemory dst s
  | .moveToMemory src, s => Machine.moveToMemory src s
  | .halt, s => Machine.halt s
  | .aluRegister op src, s => Machine.aluRegister op src s
  | .aluMemory op, s => Machine.aluMemory op s
  | .conditionalReturn cond, s => Machine.conditionalReturn cond s
  | .pop p, s => Machine.pop p s
  | .conditionalJump cond a16, s => Machine.conditionalJump cond a16 s
  | .jump a16, s => Machine.jump a16 s
  | .conditionalCall cond a16, s => Machine.conditionalCall cond a16 s
  | .push p, s => Machine.push p s
  | .aluImmediate op d8, s => Machine.aluImmediate op d8 s
  | .restart n, s => Machine.restart n s
  | .returnFromCall, s => Machine.returnFromCall s
  | .call a16, s => Machine.call a16 s
  | .output d8, s => Machine.output d8 s
  | .input d8, s => Machine.input d8 s
  | .exchangeStackTop, s => Machine.exchangeStackTop s
  | .jumpHL, s => Machine.jumpHL s
  | .exchangeHLDE, s => Machine.exchangeHLDE s
  | .popPSW, s => Machine.popPSW s
  | .disableInterrupts, s => Machine.disableInterrupts s
  | .pushPSW, s => Machine.pushPSW s
  | .loadSPFromHL, s => Machine.loadSPFromHL s
  | .enableInterrupts, s => Machine.enableInterrupts s

/-- The kind of a form (R94). -/
def Form.kind : Form → Kind
  | .noOp => .noOp
  | .loadPairImmediate _ _ => .loadPairImmediate
  | .storeAccIndirect _ => .storeAccIndirect
  | .pairIncrement _ => .pairIncrement
  | .incrementRegister _ => .incrementRegister
  | .decrementRegister _ => .decrementRegister
  | .moveImmediate _ _ => .moveImmediate
  | .rotate _ => .rotate
  | .pairAdd _ => .pairAdd
  | .loadAccIndirect _ => .loadAccIndirect
  | .pairDecrement _ => .pairDecrement
  | .storeHLDirect _ => .storeHLDirect
  | .decimalAdjust => .decimalAdjust
  | .loadHLDirect _ => .loadHLDirect
  | .complementAcc => .complementAcc
  | .storeAccDirect _ => .storeAccDirect
  | .incrementMemory => .incrementMemory
  | .decrementMemory => .decrementMemory
  | .moveImmediateToMemory _ => .moveImmediateToMemory
  | .setCarry => .setCarry
  | .loadAccDirect _ => .loadAccDirect
  | .complementCarry => .complementCarry
  | .moveRegister _ _ => .moveRegister
  | .moveFromMemory _ => .moveFromMemory
  | .moveToMemory _ => .moveToMemory
  | .halt => .halt
  | .aluRegister op _ => .aluRegister op
  | .aluMemory op => .aluMemory op
  | .conditionalReturn _ => .conditionalReturn
  | .pop _ => .pop
  | .conditionalJump _ _ => .conditionalJump
  | .jump _ => .jump
  | .conditionalCall _ _ => .conditionalCall
  | .push _ => .push
  | .aluImmediate op _ => .aluImmediate op
  | .restart _ => .restart
  | .returnFromCall => .returns
  | .call _ => .call
  | .output _ => .output
  | .input _ => .input
  | .exchangeStackTop => .exchangeStackTop
  | .jumpHL => .jumpHL
  | .exchangeHLDE => .exchangeHLDE
  | .popPSW => .popPSW
  | .disableInterrupts => .disableInterrupts
  | .pushPSW => .pushPSW
  | .loadSPFromHL => .loadSPFromHL
  | .enableInterrupts => .enableInterrupts

/-- The operand length of a form (R98). -/
def Form.operandLength : Form → Nat
  | .noOp => 0
  | .loadPairImmediate _ _ => 2
  | .storeAccIndirect _ => 0
  | .pairIncrement _ => 0
  | .incrementRegister _ => 0
  | .decrementRegister _ => 0
  | .moveImmediate _ _ => 1
  | .rotate _ => 0
  | .pairAdd _ => 0
  | .loadAccIndirect _ => 0
  | .pairDecrement _ => 0
  | .storeHLDirect _ => 2
  | .decimalAdjust => 0
  | .loadHLDirect _ => 2
  | .complementAcc => 0
  | .storeAccDirect _ => 2
  | .incrementMemory => 0
  | .decrementMemory => 0
  | .moveImmediateToMemory _ => 1
  | .setCarry => 0
  | .loadAccDirect _ => 2
  | .complementCarry => 0
  | .moveRegister _ _ => 0
  | .moveFromMemory _ => 0
  | .moveToMemory _ => 0
  | .halt => 0
  | .aluRegister _ _ => 0
  | .aluMemory _ => 0
  | .conditionalReturn _ => 0
  | .pop _ => 0
  | .conditionalJump _ _ => 2
  | .jump _ => 2
  | .conditionalCall _ _ => 2
  | .push _ => 0
  | .aluImmediate _ _ => 1
  | .restart _ => 0
  | .returnFromCall => 0
  | .call _ => 2
  | .output _ => 1
  | .input _ => 1
  | .exchangeStackTop => 0
  | .jumpHL => 0
  | .exchangeHLDE => 0
  | .popPSW => 0
  | .disableInterrupts => 0
  | .pushPSW => 0
  | .loadSPFromHL => 0
  | .enableInterrupts => 0

/-- Every instruction does what its form does. -/
theorem exec_eq_run (i : Instr) (s : State) : exec i s = (formOf i).run s := by cases i <;> rfl

theorem kind_eq (i : Instr) : i.kind = (formOf i).kind := by cases i <;> rfl

theorem operandLength_eq (i : Instr) : i.operandLength = (formOf i).operandLength := by cases i <;> rfl

/-! The forms with two outcomes. -/

theorem conditionalJump_cases {cond : Cond} {a16 : Addr} {s t : State} (h : conditionalJump cond a16 s = .next t) :
    (condHolds cond s.flags = true ∧ t = s.setPc a16) ∨ (condHolds cond s.flags = false ∧ t = s.advance 3) := by
  cases hc : condHolds cond s.flags <;> simp only [conditionalJump, hc] at h <;> cases h <;> simp

theorem conditionalCall_cases {cond : Cond} {a16 : Addr} {s t : State} (h : conditionalCall cond a16 s = .next t) :
    (condHolds cond s.flags = true ∧ t = s.enterAt (s.pc + 3) a16) ∨
      (condHolds cond s.flags = false ∧ t = s.advance 3) := by
  cases hc : condHolds cond s.flags <;> simp only [conditionalCall, hc] at h <;> cases h <;> simp

theorem conditionalReturn_cases {cond : Cond} {s t : State} (h : conditionalReturn cond s = .next t) :
    (condHolds cond s.flags = true ∧ t = s.returnPop) ∨ (condHolds cond s.flags = false ∧ t = s.advance 1) := by
  cases hc : condHolds cond s.flags <;> simp only [conditionalReturn, hc] at h <;> cases h <;> simp

/-- No form changes the parameters. -/
theorem Form.run_params {f : Form} {s t : State} (h : f.run s = .next t) : t.params = s.params := by
  cases f
  case conditionalJump => rcases conditionalJump_cases h with ⟨_, rfl⟩ | ⟨_, rfl⟩ <;> rfl
  case conditionalCall => rcases conditionalCall_cases h with ⟨_, rfl⟩ | ⟨_, rfl⟩ <;> rfl
  case conditionalReturn => rcases conditionalReturn_cases h with ⟨_, rfl⟩ | ⟨_, rfl⟩ <;> rfl
  case output => cases h; exact State.portWrite_params _ _ _
  case loadPairImmediate p _ => cases p <;> cases h <;> rfl
  case pairIncrement p => cases p <;> cases h <;> rfl
  case pairDecrement p => cases p <;> cases h <;> rfl
  case pop p => cases p <;> cases h <;> rfl
  case aluRegister op _ => cases op <;> cases h <;> rfl
  case aluMemory op => cases op <;> cases h <;> rfl
  case aluImmediate op _ => cases op <;> cases h <;> rfl
  all_goals cases h; rfl

/-- Every form answers a next state. -/
theorem Form.run_next (f : Form) (s : State) : ∃ t, f.run s = .next t := by
  cases f
  case conditionalJump cond a16 =>
    simp only [Form.run, Machine.conditionalJump]; split <;> exact ⟨_, rfl⟩
  case conditionalCall cond a16 =>
    simp only [Form.run, Machine.conditionalCall]; split <;> exact ⟨_, rfl⟩
  case conditionalReturn cond =>
    simp only [Form.run, Machine.conditionalReturn]; split <;> exact ⟨_, rfl⟩
  all_goals exact ⟨_, rfl⟩

end Sys2Proof.Machine
end

