-- ==== Sys2Proof/Laws/Memory.lean ====
section
/-! SUPPORT. The laws of memory: read after write, and that every memory operation keeps the canonical form. -/

namespace Sys2Proof.Machine

/-! Read after write. -/

theorem Memory.lookup_erase (fill : Byte) (m : Memory) (n n' : Nat) :
    Memory.lookup fill (Memory.erase m n) n' = if n' = n then fill else Memory.lookup fill m n' := by
  induction m with
  | nil => simp [Memory.erase, Memory.lookup]
  | cons e rest ih =>
    obtain ⟨k, w⟩ := e
    by_cases h : n = k <;> by_cases h' : n' = k <;> simp_all [Memory.erase, Memory.lookup]
    intro h2; omega

theorem Memory.lookup_put (fill : Byte) (m : Memory) (n n' : Nat) (v : Byte) :
    Memory.lookup fill (Memory.put m n v) n' = if n' = n then v else Memory.lookup fill m n' := by
  induction m with
  | nil => simp [Memory.put, Memory.lookup]
  | cons e rest ih =>
    obtain ⟨k, w⟩ := e
    simp only [Memory.put]
    split
    · simp [Memory.lookup]
    · split
      · subst_vars; simp only [Memory.lookup]; split <;> rfl
      · simp only [Memory.lookup, ih]
        by_cases h' : n' = k <;> simp_all
        omega

/-- A byte reads as what was last written to it, and as before where another was written (R53, R66). -/
@[simp] theorem Memory.read_write (fill : Byte) (m : Memory) (a a' : Addr) (v : Byte) :
    Memory.read fill (Memory.write fill m a v) a' = if a' = a then v else Memory.read fill m a' := by
  have hiff : a'.toNat = a.toNat ↔ a' = a := BitVec.toNat_inj
  unfold Memory.read Memory.write
  by_cases hv : v = fill
  · rw [if_pos hv, Memory.lookup_erase]; simp only [hiff, hv]
  · rw [if_neg hv, Memory.lookup_put]; simp only [hiff]

/-- The reset memory reads as RESET_MEMORY_BYTE, whatever it is, everywhere (R50). -/
@[simp] theorem Memory.read_nil (fill : Byte) (a : Addr) : Memory.read fill [] a = fill := rfl

/-! The canonical form. -/

theorem Memory.wfFrom_mono (fill : Byte) (m : Memory) {lo lo' : Nat} (hle : lo' ≤ lo)
    (h : Memory.wfFrom fill lo m = true) :
    Memory.wfFrom fill lo' m = true := by
  cases m with
  | nil => rfl
  | cons e rest =>
    obtain ⟨k, w⟩ := e
    simp only [Memory.wfFrom, Bool.and_eq_true, decide_eq_true_eq] at h ⊢
    exact ⟨⟨⟨Nat.le_trans hle h.1.1.1, h.1.1.2⟩, h.1.2⟩, h.2⟩

theorem Memory.wfFrom_erase (fill : Byte) (m : Memory) (n lo : Nat) (h : Memory.wfFrom fill lo m = true) :
    Memory.wfFrom fill lo (Memory.erase m n) = true := by
  induction m generalizing lo with
  | nil => rfl
  | cons e rest ih =>
    obtain ⟨k, w⟩ := e
    simp only [Memory.wfFrom, Bool.and_eq_true, decide_eq_true_eq] at h
    simp only [Memory.erase]
    split
    · exact Memory.wfFrom_mono _ _ (by omega) (ih (k + 1) h.2)
    · simp only [Memory.wfFrom, Bool.and_eq_true, decide_eq_true_eq]
      exact ⟨h.1, ih (k + 1) h.2⟩

theorem Memory.wfFrom_put (fill : Byte) (m : Memory) (n lo : Nat) (v : Byte) (hlo : lo ≤ n) (hn : n < Config.memorySize)
    (hv : v ≠ fill) (h : Memory.wfFrom fill lo m = true) :
    Memory.wfFrom fill lo (Memory.put m n v) = true := by
  induction m generalizing lo with
  | nil => simp [Memory.put, Memory.wfFrom, hlo, hn, hv]
  | cons e rest ih =>
    obtain ⟨k, w⟩ := e
    simp only [Memory.wfFrom, Bool.and_eq_true, decide_eq_true_eq] at h
    obtain ⟨⟨⟨h1, h2⟩, h3⟩, h4⟩ := h
    simp only [Memory.put]
    split
    · simp only [Memory.wfFrom, Bool.and_eq_true, decide_eq_true_eq]
      exact ⟨⟨⟨hlo, hn⟩, hv⟩, ⟨⟨by omega, h2⟩, h3⟩, h4⟩
    · split
      · subst_vars
        simp only [Memory.wfFrom, Bool.and_eq_true, decide_eq_true_eq]
        exact ⟨⟨⟨hlo, hn⟩, hv⟩, h4⟩
      · simp only [Memory.wfFrom, Bool.and_eq_true, decide_eq_true_eq]
        exact ⟨⟨⟨h1, h2⟩, h3⟩, ih (k + 1) (by omega) h4⟩

/-- A write keeps the canonical form. -/
theorem Memory.wf_write (fill : Byte) (m : Memory) (a : Addr) (v : Byte) (h : Memory.wf fill m = true) :
    Memory.wf fill (Memory.write fill m a v) = true := by
  unfold Memory.wf Memory.write at *
  by_cases hv : v = fill
  · rw [if_pos hv]; exact Memory.wfFrom_erase _ _ _ _ h
  · rw [if_neg hv]; exact Memory.wfFrom_put _ _ _ _ _ (Nat.zero_le _) a.isLt hv h

/-- Writing several bytes keeps the canonical form. -/
theorem Memory.wf_writeBytes (fill : Byte) (m : Memory) (n : Nat) (bytes : List Byte) (h : Memory.wf fill m = true) :
    Memory.wf fill (Memory.writeBytes fill m n bytes) = true := by
  induction bytes generalizing m n with
  | nil => exact h
  | cons v rest ih => exact ih _ _ (Memory.wf_write _ _ _ _ h)

/-- The reset memory has the canonical form. -/
theorem State.resetWith_mem_wf (params : Params) (env : Env) :
    Memory.wf params.resetMemoryByte (State.resetWith params env).mem = true := rfl

theorem State.reset_mem_wf : Memory.wf State.reset.params.resetMemoryByte State.reset.mem = true := rfl

end Sys2Proof.Machine
end

