-- ==== Sys2Proof/Laws/Words.lean ====
section
/-! SUPPORT. A word and its two bytes (R8, R58). -/

namespace Sys2Proof

@[simp] theorem word16_toNat (hi lo : Byte) : (word16 hi lo).toNat = hi.toNat * 256 + lo.toNat := by
  have := hi.isLt
  have := lo.isLt
  simp only [word16, BitVec.toNat_ofNat]
  omega

@[simp] theorem hiByte_toNat (v : Addr) : (hiByte v).toNat = v.toNat / 256 := by
  have := v.isLt
  simp only [hiByte, BitVec.toNat_ofNat]
  omega

@[simp] theorem loByte_toNat (v : Addr) : (loByte v).toNat = v.toNat % 256 := by
  simp only [loByte, BitVec.toNat_ofNat]
  omega

@[simp] theorem hiByte_word16 (hi lo : Byte) : hiByte (word16 hi lo) = hi := by
  apply BitVec.eq_of_toNat_eq
  have := lo.isLt
  simp only [hiByte_toNat, word16_toNat]
  omega

@[simp] theorem loByte_word16 (hi lo : Byte) : loByte (word16 hi lo) = lo := by
  apply BitVec.eq_of_toNat_eq
  have := lo.isLt
  simp only [loByte_toNat, word16_toNat]
  omega

/-- A word is its two bytes. -/
@[simp] theorem word16_bytes (v : Addr) : word16 (hiByte v) (loByte v) = v := by
  apply BitVec.eq_of_toNat_eq
  simp only [word16_toNat, hiByte_toNat, loByte_toNat]
  omega

end Sys2Proof
end

