-- ==== Sys2Proof/Laws/Ops.lean ====
section
/-! SUPPORT. What each shared operation does, said once: the bytes it stores, the canonical form it keeps. -/

namespace Sys2Proof.Machine

/-! Reading a byte after each operation. -/

@[simp] theorem State.readByte_writeByte (s : State) (a a' : Addr) (v : Byte) :
    (s.writeByte a v).readByte a' = if a' = a then v else s.readByte a' := Memory.read_write _ _ _ _ _

/-- Two states with the same memory and parameters read the same byte. -/
theorem State.readByte_congr {s t : State} (h : t.mem = s.mem) (hp : t.params = s.params) (a : Addr) :
    t.readByte a = s.readByte a := by
  unfold State.readByte; rw [h, hp]

@[simp] theorem State.readByte_setRegs (s : State) (v : Regs) (a : Addr) : (s.setRegs v).readByte a = s.readByte a := rfl
@[simp] theorem State.readByte_setFlags (s : State) (v : Flags) (a : Addr) : (s.setFlags v).readByte a = s.readByte a := rfl
@[simp] theorem State.readByte_setPc (s : State) (v a : Addr) : (s.setPc v).readByte a = s.readByte a := rfl
@[simp] theorem State.readByte_setSp (s : State) (v a : Addr) : (s.setSp v).readByte a = s.readByte a := rfl
@[simp] theorem State.readByte_setIe (s : State) (v : Bool) (a : Addr) : (s.setIe v).readByte a = s.readByte a := rfl
@[simp] theorem State.readByte_setRun (s : State) (v : RunState) (a : Addr) : (s.setRun v).readByte a = s.readByte a := rfl
@[simp] theorem State.readByte_setEnv (s : State) (v : Env) (a : Addr) : (s.setEnv v).readByte a = s.readByte a := rfl
@[simp] theorem State.readByte_setReg (s : State) (r : Reg) (v : Byte) (a : Addr) : (s.setReg r v).readByte a = s.readByte a := rfl
@[simp] theorem State.readByte_setBc (s : State) (v a : Addr) : (s.setBc v).readByte a = s.readByte a := rfl
@[simp] theorem State.readByte_setDe (s : State) (v a : Addr) : (s.setDe v).readByte a = s.readByte a := rfl
@[simp] theorem State.readByte_setHl (s : State) (v a : Addr) : (s.setHl v).readByte a = s.readByte a := rfl
@[simp] theorem State.readByte_advance (s : State) (n : Nat) (a : Addr) : (s.advance n).readByte a = s.readByte a := rfl
@[simp] theorem State.readByte_dropTop (s : State) (a : Addr) : s.dropTop.readByte a = s.readByte a := rfl
@[simp] theorem State.readByte_portReadDone (s : State) (port : Byte) (a : Addr) :
    (s.portReadDone port).readByte a = s.readByte a := rfl
@[simp] theorem State.readByte_portWrite (s : State) (port v : Byte) (a : Addr) :
    (s.portWrite port v).readByte a = s.readByte a := 
    State.readByte_congr (State.portWrite_mem _ _ _) (State.portWrite_params _ _ _) a
@[simp] theorem State.readByte_setIrqInput (s : State) (rest : List (Option Addr)) (a : Addr) :
    (s.setIrqInput rest).readByte a = s.readByte a := rfl

/-- A 16-bit store puts the low byte at the address and the high byte after it (R55). -/
@[simp] theorem State.readByte_writeWord (s : State) (a v a' : Addr) :
    (s.writeWord a v).readByte a' = if a' = a + 1 then hiByte v else if a' = a then loByte v else s.readByte a' := by
  simp [State.writeWord]

/-- A push stores the high byte at SP-1 and the low byte at SP-2, and no other byte (R180). -/
@[simp] theorem State.readByte_push16 (s : State) (v a : Addr) :
    (s.push16 v).readByte a = if a = s.sp - 2 then loByte v else if a = s.sp - 1 then hiByte v else s.readByte a := by
  simp [State.push16]

@[simp] theorem State.readByte_enterAt (s : State) (ret target a : Addr) :
    (s.enterAt ret target).readByte a = (s.push16 ret).readByte a := rfl

/-! A write to a port. -/

/-- A write to a port changes nothing but the list of output events (R221). -/
theorem State.portWrite_eq (s : State) (port v : Byte) :
    s.portWrite port v = s.setEnv { s.env with portWrites := (s.portWrite port v).env.portWrites } := by
  unfold State.portWrite
  split <;> rfl

/-! The canonical form of memory. -/

theorem State.wf_writeByte (s : State) (a : Addr) (v : Byte) (h : Memory.wf s.params.resetMemoryByte s.mem = true) :
    Memory.wf s.params.resetMemoryByte (s.writeByte a v).mem = true := Memory.wf_write _ _ _ _ h

theorem State.wf_writeWord (s : State) (a v : Addr) (h : Memory.wf s.params.resetMemoryByte s.mem = true) :
    Memory.wf s.params.resetMemoryByte (s.writeWord a v).mem = true := Memory.wf_write _ _ _ _ (Memory.wf_write _ _ _ _ h)

theorem State.wf_push16 (s : State) (v : Addr) (h : Memory.wf s.params.resetMemoryByte s.mem = true) :
    Memory.wf s.params.resetMemoryByte (s.push16 v).mem = true := Memory.wf_write _ _ _ _ (Memory.wf_write _ _ _ _ h)

theorem State.wf_enterAt (s : State) (ret target : Addr) (h : Memory.wf s.params.resetMemoryByte s.mem = true) :
    Memory.wf s.params.resetMemoryByte (s.enterAt ret target).mem = true := State.wf_push16 _ _ h

/-! Return, entry and interrupt acceptance, said whole. -/

/-- A return takes PC from the top of the stack and moves SP up by 2 (R195). -/
theorem State.returnPop_eq (s : State) : s.returnPop = (s.setSp (s.sp + 2)).setPc s.stackTop := rfl

/-- What taking an interrupt leaves (R238). -/
theorem State.acceptInterrupt_eq (s : State) (target : Addr) :
    s.acceptInterrupt target = ((s.push16 s.pc).setPc target).setIe false := rfl

/-- A request is taken exactly when the machine runs and interrupts are enabled (R238, R239). -/
theorem State.takesInterrupt_iff (s : State) : s.takesInterrupt = true ↔ s.run = .running ∧ s.ie = true := by
  unfold State.takesInterrupt; split <;> simp_all

/-! Pairs. -/

@[simp] theorem State.setPair_sp_reg (s : State) (v : Addr) : (s.setPair .sp v).regs = s.regs := rfl
@[simp] theorem State.setPair_mem (s : State) (p : Pair) (v : Addr) : (s.setPair p v).mem = s.mem := by cases p <;> rfl
@[simp] theorem State.setPair_flags (s : State) (p : Pair) (v : Addr) : (s.setPair p v).flags = s.flags := by cases p <;> rfl
@[simp] theorem State.setPair_pc (s : State) (p : Pair) (v : Addr) : (s.setPair p v).pc = s.pc := by cases p <;> rfl
@[simp] theorem State.setPair_ie (s : State) (p : Pair) (v : Addr) : (s.setPair p v).ie = s.ie := by cases p <;> rfl
@[simp] theorem State.setPair_run (s : State) (p : Pair) (v : Addr) : (s.setPair p v).run = s.run := by cases p <;> rfl
@[simp] theorem State.setPair_params (s : State) (p : Pair) (v : Addr) : (s.setPair p v).params = s.params := by cases p <;> rfl
@[simp] theorem State.setPair_env (s : State) (p : Pair) (v : Addr) : (s.setPair p v).env = s.env := by cases p <;> rfl

/-- A pair reads as what was written to it (R22). -/
theorem State.getPair_setPair (s : State) (p : Pair) (v : Addr) : (s.setPair p v).getPair p = v := by
  cases p
  · exact word16_bytes v
  · exact word16_bytes v
  · exact word16_bytes v
  · rfl

/-! The host's operations. -/

/-- A load that fits writes its bytes; one that does not changes nothing (R57). -/
theorem State.load_cases (s : State) (seg : Segment) :
    (seg.offset + seg.bytes.length ≤ Config.memorySize ∧
        s.load seg = .next (s.setMem (Memory.writeBytes s.params.resetMemoryByte s.mem seg.offset seg.bytes))) ∨
      (Config.memorySize < seg.offset + seg.bytes.length ∧ s.load seg = .fault .outOfRange) := by
  by_cases h : seg.offset + seg.bytes.length ≤ Config.memorySize
  · exact .inl ⟨h, by simp [State.load, Segment.wellFormed, h]⟩
  · exact .inr ⟨by omega, by simp [State.load, Segment.wellFormed, h]⟩

theorem State.wf_load (s t : State) (seg : Segment) (h : Memory.wf s.params.resetMemoryByte s.mem = true)
    (hl : s.load seg = .next t) :
    Memory.wf s.params.resetMemoryByte t.mem = true := by
  rcases s.load_cases seg with ⟨_, e⟩ | ⟨_, e⟩ <;> rw [e] at hl
  · cases hl; exact Memory.wf_writeBytes _ _ _ _ h
  · cases hl

end Sys2Proof.Machine
end

