-- ==== Sys2Proof/Laws/Step.lean ====
section
/-! SUPPORT. What a step can do, said once. -/

namespace Sys2Proof.Machine

/-- No instruction of its own has the kind Unimplemented: only UNIMPL_SET gives it (R96). -/
theorem kind_ne_unimplemented (i : Instr) : i.kind ≠ .unimplemented := by
  cases i <;> exact fun h => by cases h

/-- The kind of the next opcode is Unimplemented exactly when UNIMPL_SET holds the opcode (R96). -/
theorem State.entry_kind_unimplemented_iff (s : State) :
    s.entry.kind = .unimplemented ↔ s.opcode ∈ s.params.unimplSet := by
  simp only [State.entry, decodeTable]
  by_cases h : s.opcode ∈ s.params.unimplSet
  · simp [h]
  · simp [h, kind_ne_unimplemented]

/-- `step()` on a running machine whose opcode is in UNIMPL_SET (R243). -/
theorem cpuStep_unimplemented {s : State} (hr : s.run = .running) (h : s.opcode ∈ s.params.unimplSet) :
    cpuStep s = .next (s.raiseUnimplemented s.opcode) := by
  have hk := (State.entry_kind_unimplemented_iff s).2 h
  simp only [cpuStep, hr, hk]

/-- `step()` on a running machine whose opcode is not in UNIMPL_SET runs the instruction at PC (R230). -/
theorem cpuStep_exec {s : State} (hr : s.run = .running) (h : s.opcode ∉ s.params.unimplSet) :
    cpuStep s = exec s.fetched s := by
  have hk := mt (State.entry_kind_unimplemented_iff s).1 h
  simp only [cpuStep, hr]

/-- Everything `step()` can do when it answers a next state (R230). -/
theorem cpuStep_cases {s t : State} (h : cpuStep s = .next t) :
    s.run = .running ∧
      ((s.opcode ∈ s.params.unimplSet ∧ t = s.raiseUnimplemented s.opcode) ∨
        (s.opcode ∉ s.params.unimplSet ∧ exec s.fetched s = .next t)) := by
  cases hr : s.run with
  | halted => simp [cpuStep, hr] at h
  | faulted r => simp [cpuStep, hr] at h
  | running =>
    refine ⟨rfl, ?_⟩
    by_cases hm : s.opcode ∈ s.params.unimplSet
    · rw [cpuStep_unimplemented hr hm] at h
      exact .inl ⟨hm, by cases h; rfl⟩
    · rw [cpuStep_exec hr hm] at h
      exact .inr ⟨hm, h⟩

/-- Everything a step of the machine is: with nothing presented, `step()`; with a request presented, its acceptance or,
when it is not taken, `step()` (R236 to R239, R245). -/
theorem step_cases (s : State) :
    (s.env.irqInput = [] ∧ step s = cpuStep s) ∨
      (∃ rest, s.env.irqInput = none :: rest ∧ step s = cpuStep (s.setIrqInput rest)) ∨
      (∃ target rest, s.env.irqInput = some target :: rest ∧ s.takesInterrupt = true ∧
        step s = .next ((s.setIrqInput rest).acceptInterrupt target)) ∨
      (∃ target rest, s.env.irqInput = some target :: rest ∧ s.takesInterrupt = false ∧
        step s = cpuStep (s.setIrqInput rest)) := by
  have htake : ∀ rest, (s.setIrqInput rest).takesInterrupt = s.takesInterrupt := fun _ => rfl
  rcases hi : s.env.irqInput with _ | ⟨_ | target, rest⟩
  · exact .inl ⟨rfl, by simp only [step, boundaryStep, hi]⟩
  · exact .inr (.inl ⟨rest, rfl, by simp only [step, boundaryStep, hi]⟩)
  · cases ht : s.takesInterrupt with
    | true =>
      exact .inr (.inr (.inl ⟨target, rest, rfl, rfl, by simp only [step, boundaryStep, hi, htake, ht, if_true]⟩))
    | false =>
      exact .inr (.inr (.inr ⟨target, rest, rfl, rfl, by
        simp only [step, boundaryStep, hi, htake, ht, Bool.false_eq_true, if_false]⟩))

/-! Runs of many steps. -/

/-- One more step of a run, for any machine. -/
theorem hostRun_succ (M : Host.Core) (k : Nat) (s : M.State) :
    Host.Core.run M (k + 1) s =
      match M.step s with
      | .next t => Host.Core.run M k t
      | .fault e => .fault e
      | .refused r => .refused r := rfl

/-- A run goes on from the state of its first step. -/
theorem run_next {k : Nat} {s t : State} (h : step s = .next t) :
    Host.Core.run core (k + 1) s = Host.Core.run core k t := by
  have e := hostRun_succ core k s
  rw [show core.step s = .next t from h] at e
  exact e

/-- A run ends with the fault of its first step. -/
theorem run_fault {k : Nat} {s : State} {e : Fault} (h : step s = .fault e) : Host.Core.run core (k + 1) s = .fault e := by
  have e' := hostRun_succ core k s
  rw [show core.step s = .fault e from h] at e'
  exact e'

/-! Using up a presentation changes neither what is fetched nor whether it is Unimplemented. -/

@[simp] theorem State.opcode_setIrqInput (s : State) (rest : List (Option Addr)) :
    (s.setIrqInput rest).opcode = s.opcode := rfl
@[simp] theorem State.fetched_setIrqInput (s : State) (rest : List (Option Addr)) :
    (s.setIrqInput rest).fetched = s.fetched := rfl

end Sys2Proof.Machine
end

