-- ==== Sys2Proof/Tests/Slice0.lean ====
section
/-! SUPPORT. The model's own tests. Every expected value is the spec's: `test_V<n>` is vector V<n> of
95_test_vectors.md, the decode tests are R85 to R93 of 30_encoding.md. Last come the witnesses of the obligations'
hypotheses. -/

namespace Sys2Proof.Tests

open Sys2Proof Sys2Proof.Machine Sys2Proof.Claims

/-! Well-formed terms: what each check refuses. -/

theorem test_wellFormed_instr : (Instr.lxiSP 0xFFFF).wellFormed = true := by decide
theorem test_wellFormed_segmentFits : (Segment.wellFormed { bytes := [0xAA, 0xBB], offset := 0xFFFE }) = true := by decide
theorem test_illFormed_segment : (Segment.wellFormed { bytes := [0xAA, 0xBB], offset := 0xFFFF }) = false := by decide
theorem test_illFormed_image :
    Image.wellFormed [{ bytes := [0x00], offset := 0 }, { bytes := [0x01], offset := 0x10000 }] = false := by decide

/-! Decoding: the map of R93, each opcode byte in binary, with the operand bytes 0x34 0x12 after it. -/

/-- What an opcode byte followed by 0x34 0x12 decodes to. -/
def opcodeWith3412 (op : Byte) : Instr := decodeOp op 0x34 0x12

theorem test_decode_row0 :
    [0b00000000, 0b00000001, 0b00000010, 0b00000011, 0b00000100, 0b00000101, 0b00000110, 0b00000111,
      0b00001000, 0b00001001, 0b00001010, 0b00001011, 0b00001100, 0b00001101, 0b00001110, 0b00001111].map opcodeWith3412 =
      [.nop 0, .lxiB 0x1234, .staxB, .inxB, .inrB, .dcrB, .mviB 0x34, .rlc,
        .nop 1, .dadB, .ldaxB, .dcxB, .inrC, .dcrC, .mviC 0x34, .rrc] := by decide
theorem test_decode_row1 :
    [0b00010000, 0b00010001, 0b00010010, 0b00010011, 0b00010100, 0b00010101, 0b00010110, 0b00010111,
      0b00011000, 0b00011001, 0b00011010, 0b00011011, 0b00011100, 0b00011101, 0b00011110, 0b00011111].map opcodeWith3412 =
      [.nop 2, .lxiD 0x1234, .staxD, .inxD, .inrD, .dcrD, .mviD 0x34, .ral,
        .nop 3, .dadD, .ldaxD, .dcxD, .inrE, .dcrE, .mviE 0x34, .rar] := by decide
theorem test_decode_row2 :
    [0b00100000, 0b00100001, 0b00100010, 0b00100011, 0b00100100, 0b00100101, 0b00100110, 0b00100111,
      0b00101000, 0b00101001, 0b00101010, 0b00101011, 0b00101100, 0b00101101, 0b00101110, 0b00101111].map opcodeWith3412 =
      [.nop 4, .lxiH 0x1234, .shld 0x1234, .inxH, .inrH, .dcrH, .mviH 0x34, .daa,
        .nop 5, .dadH, .lhld 0x1234, .dcxH, .inrL, .dcrL, .mviL 0x34, .cma] := by decide
theorem test_decode_row3 :
    [0b00110000, 0b00110001, 0b00110010, 0b00110011, 0b00110100, 0b00110101, 0b00110110, 0b00110111,
      0b00111000, 0b00111001, 0b00111010, 0b00111011, 0b00111100, 0b00111101, 0b00111110, 0b00111111].map opcodeWith3412 =
      [.nop 6, .lxiSP 0x1234, .sta 0x1234, .inxSP, .inrM, .dcrM, .mviM 0x34, .stc,
        .nop 7, .dadSP, .lda 0x1234, .dcxSP, .inrA, .dcrA, .mviA 0x34, .cmc] := by decide
theorem test_decode_row4 :
    [0b01000000, 0b01000001, 0b01000010, 0b01000011, 0b01000100, 0b01000101, 0b01000110, 0b01000111,
      0b01001000, 0b01001001, 0b01001010, 0b01001011, 0b01001100, 0b01001101, 0b01001110, 0b01001111].map opcodeWith3412 =
      [.movBB, .movBC, .movBD, .movBE, .movBH, .movBL, .movBM, .movBA,
        .movCB, .movCC, .movCD, .movCE, .movCH, .movCL, .movCM, .movCA] := by decide
theorem test_decode_row5 :
    [0b01010000, 0b01010001, 0b01010010, 0b01010011, 0b01010100, 0b01010101, 0b01010110, 0b01010111,
      0b01011000, 0b01011001, 0b01011010, 0b01011011, 0b01011100, 0b01011101, 0b01011110, 0b01011111].map opcodeWith3412 =
      [.movDB, .movDC, .movDD, .movDE, .movDH, .movDL, .movDM, .movDA,
        .movEB, .movEC, .movED, .movEE, .movEH, .movEL, .movEM, .movEA] := by decide
theorem test_decode_row6 :
    [0b01100000, 0b01100001, 0b01100010, 0b01100011, 0b01100100, 0b01100101, 0b01100110, 0b01100111,
      0b01101000, 0b01101001, 0b01101010, 0b01101011, 0b01101100, 0b01101101, 0b01101110, 0b01101111].map opcodeWith3412 =
      [.movHB, .movHC, .movHD, .movHE, .movHH, .movHL, .movHM, .movHA,
        .movLB, .movLC, .movLD, .movLE, .movLH, .movLL, .movLM, .movLA] := by decide
theorem test_decode_row7 :
    [0b01110000, 0b01110001, 0b01110010, 0b01110011, 0b01110100, 0b01110101, 0b01110110, 0b01110111,
      0b01111000, 0b01111001, 0b01111010, 0b01111011, 0b01111100, 0b01111101, 0b01111110, 0b01111111].map opcodeWith3412 =
      [.movMB, .movMC, .movMD, .movME, .movMH, .movML, .hlt, .movMA,
        .movAB, .movAC, .movAD, .movAE, .movAH, .movAL, .movAM, .movAA] := by decide
theorem test_decode_row8 :
    [0b10000000, 0b10000001, 0b10000010, 0b10000011, 0b10000100, 0b10000101, 0b10000110, 0b10000111,
      0b10001000, 0b10001001, 0b10001010, 0b10001011, 0b10001100, 0b10001101, 0b10001110, 0b10001111].map opcodeWith3412 =
      [.addB, .addC, .addD, .addE, .addH, .addL, .addM, .addA,
        .adcB, .adcC, .adcD, .adcE, .adcH, .adcL, .adcM, .adcA] := by decide
theorem test_decode_row9 :
    [0b10010000, 0b10010001, 0b10010010, 0b10010011, 0b10010100, 0b10010101, 0b10010110, 0b10010111,
      0b10011000, 0b10011001, 0b10011010, 0b10011011, 0b10011100, 0b10011101, 0b10011110, 0b10011111].map opcodeWith3412 =
      [.subB, .subC, .subD, .subE, .subH, .subL, .subM, .subA,
        .sbbB, .sbbC, .sbbD, .sbbE, .sbbH, .sbbL, .sbbM, .sbbA] := by decide
theorem test_decode_rowA :
    [0b10100000, 0b10100001, 0b10100010, 0b10100011, 0b10100100, 0b10100101, 0b10100110, 0b10100111,
      0b10101000, 0b10101001, 0b10101010, 0b10101011, 0b10101100, 0b10101101, 0b10101110, 0b10101111].map opcodeWith3412 =
      [.anaB, .anaC, .anaD, .anaE, .anaH, .anaL, .anaM, .anaA,
        .xraB, .xraC, .xraD, .xraE, .xraH, .xraL, .xraM, .xraA] := by decide
theorem test_decode_rowB :
    [0b10110000, 0b10110001, 0b10110010, 0b10110011, 0b10110100, 0b10110101, 0b10110110, 0b10110111,
      0b10111000, 0b10111001, 0b10111010, 0b10111011, 0b10111100, 0b10111101, 0b10111110, 0b10111111].map opcodeWith3412 =
      [.oraB, .oraC, .oraD, .oraE, .oraH, .oraL, .oraM, .oraA,
        .cmpB, .cmpC, .cmpD, .cmpE, .cmpH, .cmpL, .cmpM, .cmpA] := by decide
theorem test_decode_rowC :
    [0b11000000, 0b11000001, 0b11000010, 0b11000011, 0b11000100, 0b11000101, 0b11000110, 0b11000111,
      0b11001000, 0b11001001, 0b11001010, 0b11001011, 0b11001100, 0b11001101, 0b11001110, 0b11001111].map opcodeWith3412 =
      [.rnz, .popB, .jnz 0x1234, .jmp 0 0x1234, .cnz 0x1234, .pushB, .adi 0x34, .rst0,
        .rz, .ret 0, .jz 0x1234, .jmp 1 0x1234, .cz 0x1234, .call 0 0x1234, .aci 0x34, .rst1] := by decide
theorem test_decode_rowD :
    [0b11010000, 0b11010001, 0b11010010, 0b11010011, 0b11010100, 0b11010101, 0b11010110, 0b11010111,
      0b11011000, 0b11011001, 0b11011010, 0b11011011, 0b11011100, 0b11011101, 0b11011110, 0b11011111].map opcodeWith3412 =
      [.rnc, .popD, .jnc 0x1234, .outPort 0x34, .cnc 0x1234, .pushD, .sui 0x34, .rst2,
        .rc, .ret 1, .jc 0x1234, .inPort 0x34, .cc 0x1234, .call 1 0x1234, .sbi 0x34, .rst3] := by decide
theorem test_decode_rowE :
    [0b11100000, 0b11100001, 0b11100010, 0b11100011, 0b11100100, 0b11100101, 0b11100110, 0b11100111,
      0b11101000, 0b11101001, 0b11101010, 0b11101011, 0b11101100, 0b11101101, 0b11101110, 0b11101111].map opcodeWith3412 =
      [.rpo, .popH, .jpo 0x1234, .xthl, .cpo 0x1234, .pushH, .ani 0x34, .rst4,
        .rpe, .pchl, .jpe 0x1234, .xchg, .cpe 0x1234, .call 2 0x1234, .xri 0x34, .rst5] := by decide
theorem test_decode_rowF :
    [0b11110000, 0b11110001, 0b11110010, 0b11110011, 0b11110100, 0b11110101, 0b11110110, 0b11110111,
      0b11111000, 0b11111001, 0b11111010, 0b11111011, 0b11111100, 0b11111101, 0b11111110, 0b11111111].map opcodeWith3412 =
      [.rp, .popPSW, .jp 0x1234, .di, .cp 0x1234, .pushPSW, .ori 0x34, .rst6,
        .rm, .sphl, .jm 0x1234, .ei, .cm 0x1234, .call 3 0x1234, .cpi 0x34, .rst7] := by decide

/-- `11ccc010` with `a16`, and what follows it is left over. -/
theorem test_decode_jnz : decode [0b11000010, 0x06, 0x00, 0x32] = .ok (.jnz 0x0006, [0x32]) := rfl
theorem test_decode_missingOperand : decode [0b11000010, 0x06] = .error (.missingOperand 0xC2) := rfl
theorem test_decode_missingImmediate : decode [0b00111110] = .error (.missingOperand 0x3E) := rfl
theorem test_decode_missingOpcode : decode [] = .error .missingOpcode := rfl

/-- How many opcodes have `n` operand bytes. -/
def opcodesWithOperands (n : Nat) : Nat :=
  ((List.range 16).map fun hi => (List.range 16).countP fun lo =>
    (decodeTable [] (BitVec.ofNat 8 (16 * hi + lo))).operandLength == n).sum

/-- 208 opcodes have no operand byte, 18 have one, 30 have two (S6). -/
theorem test_lengthCounts :
    [0, 1, 2].map opcodesWithOperands = [208, 18, 30] := by decide

/-- The mnemonic of an alias is that of the instruction it executes as (R95). -/
theorem test_aliasMnemonics :
    ([0x08, 0xCB, 0xD9, 0xFD] : List Byte).map (fun op => (decodeTable [] op).mnemonic) =
      ["NOP", "JMP a16", "RET", "CALL a16"] := by decide

/-- Words numbered as the opcode table numbers them, and an operand word of zeros. -/
theorem test_tableWord_mvi : decodeTableWord 16 0x423E = some (.mviA 0x42) := by decide
theorem test_tableWord_call : decodeTableWord 24 0x2000CD = some (.call 0 0x2000) := by decide
theorem test_tableWord_noOperandBits : decodeTableWord 8 0xC3 = some (.jmp 0 0x0000) := by decide

/-! The flag functions (S2, S3). -/

theorem test_zeroFlag :
    [zeroFlag 0x00 8, zeroFlag 0x80 8, zeroFlag 0x100 8, zeroFlag 0x1FF 8, zeroFlag 0x100 16, zeroFlag 0x10000 16] =
      [true, false, true, false, false, true] := by decide
theorem test_parityFlag :
    [parityFlag 0x03 8, parityFlag 0x07 8, parityFlag 0x00 8, parityFlag 0xFF 8, parityFlag 0xFE 8, parityFlag 0x9A 8] =
      [true, false, true, true, false, true] := by decide

/-! One step from a small state. -/

/-- Every register 0. -/
def zeroed : Regs := State.reset.regs

/-- Every flag 0. -/
def unset : Flags := State.reset.flags

/-- The vectors' start: the reset state with PC at 0x0100. -/
def start : State := State.reset.setPc 0x0100

/-- Bytes placed at PC. -/
def code (bytes : List Byte) (s : State) : State :=
  s.setMem (Memory.writeBytes s.params.resetMemoryByte s.mem s.pc.toNat bytes)

/-- The state after one step. -/
def after (s : State) : Option State :=
  match step s with
  | .next t => some t
  | .fault _ => none
  | .refused _ => none

/-- Why a step or a host operation fails. -/
def failure (r : Result) : Option Fault :=
  match r with
  | .next _ => none
  | .fault e => some e
  | .refused _ => none

theorem test_V1_addB :
    let s := code [0x80] { start with regs := { zeroed with a := 0x6C, b := 0x2E } }
    after s =
      some { s with regs := { s.regs with a := 0x9A }, flags := { s.flags with s := true, p := true, ac := true }, pc := 0x0101 }
      := by decide
theorem test_V4_addM :
    let s := code [0x86] { start with regs := { zeroed with a := 0x0F, h := 0x20 }, mem := [(0x2000, 0x01)] }
    after s =
      some { s with regs := { s.regs with a := 0x10 }, flags := { s.flags with ac := true }, pc := 0x0101 } := by decide
theorem test_V6_adcC :
    let s := code [0x89] { start with regs := { zeroed with a := 0x42, c := 0x3D }, flags := { unset with cy := true } }
    after s =
      some { s with regs := { s.regs with a := 0x80 }, flags := { s.flags with s := true, cy := false, ac := true }, pc := 0x0101 }
      := by decide
theorem test_V9_aci :
    let s := code [0xCE, 0x00] { start with regs := { zeroed with a := 0xFF }, flags := { unset with cy := true } }
    after s =
      some { s with regs := { s.regs with a := 0x00 }, flags := { s.flags with z := true, p := true, ac := true }, pc := 0x0102 }
      := by decide
theorem test_V11_subB :
    let s := code [0x90] { start with regs := { zeroed with b := 0x01 } }
    after s =
      some { s with regs := { s.regs with a := 0xFF }, flags := { s.flags with s := true, p := true, cy := true }, pc := 0x0101 }
      := by decide
theorem test_V13_sbbL :
    let s := code [0x9D] { start with regs := { zeroed with a := 0x04, l := 0x02 }, flags := { unset with cy := true } }
    after s =
      some { s with regs := { s.regs with a := 0x01 }, flags := { s.flags with cy := false, ac := true }, pc := 0x0101 }
      := by decide
theorem test_V15_sui :
    let s := code [0xD6, 0x01] start
    after s =
      some { s with regs := { s.regs with a := 0xFF }, flags := { s.flags with s := true, p := true, cy := true }, pc := 0x0102 }
      := by decide
theorem test_V16_sbi :
    let s := code [0xDE, 0x01] { start with flags := { unset with cy := true } }
    after s =
      some { s with regs := { s.regs with a := 0xFE }, flags := { s.flags with s := true }, pc := 0x0102 } := by decide
theorem test_V17_anaC :
    let s := code [0xA1] { start with regs := { zeroed with a := 0xFC, c := 0x0F }, flags := { unset with cy := true } }
    after s =
      some { s with regs := { s.regs with a := 0x0C }, flags := { s.flags with p := true, cy := false, ac := true }, pc := 0x0101 }
      := by decide
theorem test_V18_ani :
    let s := code [0xE6, 0x0F]
      { start with regs := { zeroed with a := 0x3A }, flags := { unset with cy := true, ac := true } }
    after s =
      some { s with regs := { s.regs with a := 0x0A }, flags := { s.flags with p := true, cy := false }, pc := 0x0102 }
      := by decide
theorem test_V21_xraB :
    let s := code [0xA8] { start with regs := { zeroed with a := 0xFF, b := 0x0F } }
    after s =
      some { s with regs := { s.regs with a := 0xF0 }, flags := { s.flags with s := true, p := true }, pc := 0x0101 }
      := by decide
theorem test_V22_xri :
    let s := code [0xEE, 0x81] { start with regs := { zeroed with a := 0x3B }, flags := { unset with cy := true } }
    after s =
      some { s with regs := { s.regs with a := 0xBA }, flags := { s.flags with s := true, cy := false }, pc := 0x0102 }
      := by decide
theorem test_V23_oraC :
    let s := code [0xB1]
      { start with regs := { zeroed with a := 0x33, c := 0x0F }, flags := { unset with cy := true, ac := true } }
    after s =
      some { s with regs := { s.regs with a := 0x3F }, flags := { s.flags with p := true, cy := false, ac := false }, pc := 0x0101 }
      := by decide
theorem test_V24_ori :
    let s := code [0xF6, 0x0F] { start with regs := { zeroed with a := 0xB5 } }
    after s =
      some { s with regs := { s.regs with a := 0xBF }, flags := { s.flags with s := true }, pc := 0x0102 } := by decide
theorem test_V27_cmpE :
    let s := code [0xBB] { start with regs := { zeroed with a := 0x02, e := 0x05 } }
    after s = some { s with flags := { s.flags with s := true, cy := true }, pc := 0x0101 } := by decide
theorem test_V30_cpi :
    let s := code [0xFE, 0x80] start
    after s = some { s with flags := { s.flags with s := true, cy := true, ac := true }, pc := 0x0102 } := by decide
theorem test_V33_inrB :
    let s := code [0x04] { start with regs := { zeroed with b := 0x7F }, flags := { unset with cy := true } }
    after s =
      some { s with regs := { s.regs with b := 0x80 }, flags := { s.flags with s := true, ac := true }, pc := 0x0101 }
      := by decide
theorem test_V34_inrM :
    let s := code [0x34] { start with regs := { zeroed with h := 0x20 }, mem := [(0x2000, 0x0F)] }
    after s = some { (s.writeByte 0x2000 0x10) with flags := { s.flags with ac := true }, pc := 0x0101 } := by decide
theorem test_V35_dcrB :
    let s := code [0x05] { start with regs := { zeroed with b := 0x01 }, flags := { unset with cy := true } }
    after s =
      some { s with regs := { s.regs with b := 0x00 }, flags := { s.flags with z := true, p := true, ac := true }, pc := 0x0101 }
      := by decide
theorem test_V38_dcrM :
    let s := code [0x35] { start with regs := { zeroed with h := 0x3A, l := 0x7C }, mem := [(0x3A7C, 0x40)] }
    after s = some { (s.writeByte 0x3A7C 0x3F) with flags := { s.flags with p := true }, pc := 0x0101 } := by decide
theorem test_V39_daa :
    let s := code [0x27] { start with regs := { zeroed with a := 0x9B } }
    after s =
      some { s with regs := { s.regs with a := 0x01 }, flags := { s.flags with cy := true, ac := true }, pc := 0x0101 }
      := by decide
theorem test_V41_daa :
    let s := code [0x27] { start with flags := { unset with cy := true, ac := true } }
    after s =
      some { s with regs := { s.regs with a := 0x66 }, flags := { s.flags with p := true, ac := false }, pc := 0x0101 }
      := by decide
theorem test_V45_cma :
    let s := code [0x2F] { start with regs := { zeroed with a := 0x51 }, flags := { unset with z := true, cy := true } }
    after s = some { s with regs := { s.regs with a := 0xAE }, pc := 0x0101 } := by decide
theorem test_V47_stc :
    let s := code [0x37] { start with flags := { unset with cy := true } }
    after s = some { s with pc := 0x0101 } := by decide
theorem test_V49_cmc :
    let s := code [0x3F] start
    after s = some { s with flags := { s.flags with cy := true }, pc := 0x0101 } := by decide
theorem test_V52_nop :
    let s := code [0x38] start
    after s = some { s with pc := 0x0101 } := by decide
theorem test_V53_mviB :
    let s := code [0x06, 0x42] start
    after s = some { s with regs := { s.regs with b := 0x42 }, pc := 0x0102 } := by decide
theorem test_V55_mviM :
    let s := code [0x36, 0x99] { start with regs := { zeroed with h := 0x20 } }
    after s = some { (s.writeByte 0x2000 0x99) with pc := 0x0102 } := by decide
theorem test_V57_lxiB :
    let s := code [0x01, 0x34, 0x12] start
    after s = some { s with regs := { s.regs with b := 0x12, c := 0x34 }, pc := 0x0103 } := by decide
theorem test_V60_lxiD :
    let s := code [0x11, 0xCD, 0xAB] { start with pc := 0xFFFF }
    after s = some { s with regs := { s.regs with d := 0xAB, e := 0xCD }, pc := 0x0002 } := by decide
theorem test_V63_movEA :
    let s := code [0x5F] { start with regs := { zeroed with a := 0x80, e := 0x01 } }
    after s = some { s with regs := { s.regs with e := 0x80 }, pc := 0x0101 } := by decide
theorem test_V66_movHM :
    let s := code [0x66] { start with regs := { zeroed with h := 0x20 }, mem := [(0x2000, 0x30)] }
    after s = some { s with regs := { s.regs with h := 0x30 }, pc := 0x0101 } := by decide
theorem test_V67_movMH :
    let s := code [0x74] { start with regs := { zeroed with h := 0x20, l := 0x10 } }
    after s = some { (s.writeByte 0x2010 0x20) with pc := 0x0101 } := by decide
theorem test_V69_lda :
    let s := code [0x3A, 0x00, 0x03] { start with mem := [(0x0300, 0x9C)] }
    after s = some { s with regs := { s.regs with a := 0x9C }, pc := 0x0103 } := by decide
theorem test_V70_sta :
    let s := code [0x32, 0xB3, 0x05] { start with regs := { zeroed with a := 0x4D } }
    after s = some { (s.writeByte 0x05B3 0x4D) with pc := 0x0103 } := by decide
theorem test_V72_lhld :
    let s := code [0x2A, 0xFF, 0xFF] { start with mem := [(0x0000, 0x12), (0xFFFF, 0x34)] }
    after s = some { s with regs := { s.regs with h := 0x12, l := 0x34 }, pc := 0x0103 } := by decide
theorem test_V74_shld :
    let s := code [0x22, 0xFF, 0xFF] { start with regs := { zeroed with h := 0xAE, l := 0x29 } }
    after s = some { ((s.writeByte 0x0000 0xAE).writeByte 0xFFFF 0x29) with pc := 0x0103 } := by decide
theorem test_V76_ldaxD :
    let s := code [0x1A] { start with regs := { zeroed with d := 0x93, e := 0x8B }, mem := [(0x938B, 0x66)] }
    after s = some { s with regs := { s.regs with a := 0x66 }, pc := 0x0101 } := by decide
theorem test_V78_staxD :
    let s := code [0x12] { start with regs := { zeroed with a := 0x88, d := 0xFF, e := 0xFF } }
    after s = some { (s.writeByte 0xFFFF 0x88) with pc := 0x0101 } := by decide
theorem test_V80_inxSP :
    let s := code [0x33] { start with flags := { unset with z := true, cy := true }, sp := 0xFFFF }
    after s = some { s with pc := 0x0101, sp := 0x0000 } := by decide
theorem test_V83_dcxB :
    let s := code [0x0B] start
    after s = some { s with regs := { s.regs with b := 0xFF, c := 0xFF }, pc := 0x0101 } := by decide
theorem test_V87_dadB :
    let s := code [0x09] { start with regs := { zeroed with b := 0x33, c := 0x9F, h := 0xA1, l := 0x7B } }
    after s = some { s with regs := { s.regs with h := 0xD5, l := 0x1A }, pc := 0x0101 } := by decide
theorem test_V88_dadH :
    let s := code [0x29] { start with regs := { zeroed with h := 0x80 }, flags := { unset with z := true } }
    after s =
      some { s with regs := { s.regs with h := 0x00 }, flags := { s.flags with cy := true }, pc := 0x0101 } := by decide
theorem test_V94_pushH :
    let s := code [0xE5] { start with regs := { zeroed with h := 0xAB, l := 0xCD }, sp := 0x0001 }
    after s = some { ((s.writeByte 0x0000 0xAB).writeByte 0xFFFF 0xCD) with pc := 0x0101, sp := 0xFFFF } := by decide
theorem test_V98_popH :
    let s := code [0xE1] { start with sp := 0xFFFF, mem := [(0x0000, 0x12), (0xFFFF, 0x34)] }
    after s = some { s with regs := { s.regs with h := 0x12, l := 0x34 }, pc := 0x0101, sp := 0x0001 } := by decide
theorem test_V102_pushPSW :
    let s := code [0xF5]
      { start with regs := { zeroed with a := 0xFF }, flags := { unset with z := true, s := true, p := true, cy := true, ac := true }, sp := 0x2400 }
    after s = some { ((s.writeByte 0x23FE 0xD7).writeByte 0x23FF 0xFF) with pc := 0x0101, sp := 0x23FE } := by decide
theorem test_V103_popPSW :
    let s := code [0xF1] { start with sp := 0x2C00, mem := [(0x2C00, 0xC3), (0x2C01, 0xFF)] }
    after s =
      some { s with regs := { s.regs with a := 0xFF }, flags := { s.flags with z := true, s := true, cy := true }, pc := 0x0101, sp := 0x2C02 }
      := by decide
theorem test_V107_sphl :
    let s := code [0xF9] { start with regs := { zeroed with h := 0x50, l := 0x6C } }
    after s = some { s with pc := 0x0101, sp := 0x506C } := by decide
theorem test_V109_jmp :
    let s := code [0xCB, 0x00, 0x3E] start
    after s = some { s with pc := 0x3E00 } := by decide
theorem test_V112_jnz :
    let s := code [0xC2, 0x00, 0x20] { start with flags := { unset with z := true } }
    after s = some { s with pc := 0x0103 } := by decide
theorem test_V114_jz :
    let s := code [0xCA, 0x00, 0x20] { start with flags := { unset with z := true } }
    after s = some { s with pc := 0x2000 } := by decide
theorem test_V116_jnc :
    let s := code [0xD2, 0x00, 0x20] { start with flags := { unset with cy := true } }
    after s = some { s with pc := 0x0103 } := by decide
theorem test_V118_jc :
    let s := code [0xDA, 0x00, 0x20] { start with flags := { unset with cy := true } }
    after s = some { s with pc := 0x2000 } := by decide
theorem test_V119_jpo :
    let s := code [0xE2, 0x00, 0x20] start
    after s = some { s with pc := 0x2000 } := by decide
theorem test_V122_jpe :
    let s := code [0xEA, 0x00, 0x20] { start with flags := { unset with p := true } }
    after s = some { s with pc := 0x2000 } := by decide
theorem test_V124_jp :
    let s := code [0xF2, 0x00, 0x20] { start with flags := { unset with s := true } }
    after s = some { s with pc := 0x0103 } := by decide
theorem test_V126_jm :
    let s := code [0xFA, 0x00, 0x20] { start with flags := { unset with s := true } }
    after s = some { s with pc := 0x2000 } := by decide
theorem test_V128_pchl :
    let s := code [0xE9] { start with regs := { zeroed with h := 0x41, l := 0x3E } }
    after s = some { s with pc := 0x413E } := by decide
theorem test_V132_call :
    let s := code [0xFD, 0x00, 0x20] { start with sp := 0x2400 }
    after s = some { ((s.writeByte 0x23FE 0x03).writeByte 0x23FF 0x01) with pc := 0x2000, sp := 0x23FE } := by decide
theorem test_V133_call :
    let s := code [0xCD, 0x00, 0x20] { start with pc := 0xFFFE, sp := 0x2400 }
    after s = some { (s.writeByte 0x23FE 0x01) with pc := 0x2000, sp := 0x23FE } := by decide
theorem test_V135_cnz :
    let s := code [0xC4, 0x00, 0x20] { start with flags := { unset with z := true }, sp := 0x2400 }
    after s = some { s with pc := 0x0103 } := by decide
theorem test_V137_cz :
    let s := code [0xCC, 0x00, 0x20] { start with flags := { unset with z := true }, sp := 0x2400 }
    after s = some { ((s.writeByte 0x23FE 0x03).writeByte 0x23FF 0x01) with pc := 0x2000, sp := 0x23FE } := by decide
theorem test_V138_cnc :
    let s := code [0xD4, 0x00, 0x20] { start with sp := 0x2400 }
    after s = some { ((s.writeByte 0x23FE 0x03).writeByte 0x23FF 0x01) with pc := 0x2000, sp := 0x23FE } := by decide
theorem test_V141_cc :
    let s := code [0xDC, 0x00, 0x20] { start with flags := { unset with cy := true }, sp := 0x2400 }
    after s = some { ((s.writeByte 0x23FE 0x03).writeByte 0x23FF 0x01) with pc := 0x2000, sp := 0x23FE } := by decide
theorem test_V143_cpo :
    let s := code [0xE4, 0x00, 0x20] { start with flags := { unset with p := true }, sp := 0x2400 }
    after s = some { s with pc := 0x0103 } := by decide
theorem test_V144_cpe :
    let s := code [0xEC, 0x00, 0x20] { start with sp := 0x2400 }
    after s = some { s with pc := 0x0103 } := by decide
theorem test_V146_cp :
    let s := code [0xF4, 0x00, 0x20] { start with sp := 0x2400 }
    after s = some { ((s.writeByte 0x23FE 0x03).writeByte 0x23FF 0x01) with pc := 0x2000, sp := 0x23FE } := by decide
theorem test_V149_cm :
    let s := code [0xFC, 0x00, 0x20] { start with flags := { unset with s := true }, sp := 0x2400 }
    after s = some { ((s.writeByte 0x23FE 0x03).writeByte 0x23FF 0x01) with pc := 0x2000, sp := 0x23FE } := by decide
theorem test_V152_ret :
    let s := code [0xC9] { start with pc := 0x2000, sp := 0xFFFF, mem := [(0x0000, 0x01), (0xFFFF, 0x03)] }
    after s = some { s with pc := 0x0103, sp := 0x0001 } := by decide
theorem test_V154_rnz :
    let s := code [0xC0]
      { start with flags := { unset with z := true }, pc := 0x2000, sp := 0x23FE, mem := [(0x23FE, 0x03), (0x23FF, 0x01)] }
    after s = some { s with pc := 0x2001 } := by decide
theorem test_V156_rz :
    let s := code [0xC8]
      { start with flags := { unset with z := true }, pc := 0x2000, sp := 0x23FE, mem := [(0x23FE, 0x03), (0x23FF, 0x01)] }
    after s = some { s with pc := 0x0103, sp := 0x2400 } := by decide
theorem test_V157_rnc :
    let s := code [0xD0] { start with pc := 0x2000, sp := 0x23FE, mem := [(0x23FE, 0x03), (0x23FF, 0x01)] }
    after s = some { s with pc := 0x0103, sp := 0x2400 } := by decide
theorem test_V160_rc :
    let s := code [0xD8]
      { start with flags := { unset with cy := true }, pc := 0x2000, sp := 0x23FE, mem := [(0x23FE, 0x03), (0x23FF, 0x01)] }
    after s = some { s with pc := 0x0103, sp := 0x2400 } := by decide
theorem test_V161_rpo :
    let s := code [0xE0] { start with pc := 0x2000, sp := 0x23FE, mem := [(0x23FE, 0x03), (0x23FF, 0x01)] }
    after s = some { s with pc := 0x0103, sp := 0x2400 } := by decide
theorem test_V164_rpe :
    let s := code [0xE8]
      { start with flags := { unset with p := true }, pc := 0x2000, sp := 0x23FE, mem := [(0x23FE, 0x03), (0x23FF, 0x01)] }
    after s = some { s with pc := 0x0103, sp := 0x2400 } := by decide
theorem test_V166_rp :
    let s := code [0xF0]
      { start with flags := { unset with s := true }, pc := 0x2000, sp := 0x23FE, mem := [(0x23FE, 0x03), (0x23FF, 0x01)] }
    after s = some { s with pc := 0x2001 } := by decide
theorem test_V168_rm :
    let s := code [0xF8]
      { start with flags := { unset with s := true }, pc := 0x2000, sp := 0x23FE, mem := [(0x23FE, 0x03), (0x23FF, 0x01)] }
    after s = some { s with pc := 0x0103, sp := 0x2400 } := by decide
theorem test_V169_rlc :
    let s := code [0x07] { start with regs := { zeroed with a := 0xF2 } }
    after s =
      some { s with regs := { s.regs with a := 0xE5 }, flags := { s.flags with cy := true }, pc := 0x0101 } := by decide
theorem test_V172_rrc :
    let s := code [0x0F] { start with regs := { zeroed with a := 0xF2 }, flags := { unset with cy := true } }
    after s =
      some { s with regs := { s.regs with a := 0x79 }, flags := { s.flags with cy := false }, pc := 0x0101 } := by decide
theorem test_V174_ral :
    let s := code [0x17] { start with regs := { zeroed with a := 0xB5 } }
    after s =
      some { s with regs := { s.regs with a := 0x6A }, flags := { s.flags with cy := true }, pc := 0x0101 } := by decide
theorem test_V177_rar :
    let s := code [0x1F] { start with regs := { zeroed with a := 0x6A }, flags := { unset with cy := true } }
    after s =
      some { s with regs := { s.regs with a := 0xB5 }, flags := { s.flags with cy := false }, pc := 0x0101 } := by decide
theorem test_V179_xchg :
    let s := code [0xEB] { start with regs := { zeroed with d := 0x33, e := 0x55, l := 0xFF } }
    after s =
      some { s with regs := { s.regs with d := 0x00, e := 0xFF, h := 0x33, l := 0x55 }, pc := 0x0101 } := by decide
theorem test_V181_xthl :
    let s := code [0xE3]
      { start with regs := { zeroed with h := 0x0B, l := 0x3C }, sp := 0xFFFF, mem := [(0x0000, 0x0D), (0xFFFF, 0xF0)] }
    after s =
      some { ((s.writeByte 0x0000 0x0B).writeByte 0xFFFF 0x3C) with regs := { s.regs with h := 0x0D, l := 0xF0 }, pc := 0x0101 }
      := by decide
theorem test_V182_in :
    let s := code [0xDB, 0x01] { start with env := { Env.initial with handler := .injected [0x5A] } }
    after s =
      some { s with regs := { s.regs with a := 0x5A }, pc := 0x0102, env := { s.env with handler := .injected [], portReads := 1 } }
      := by decide
theorem test_V183_in :
    let s := code [0xDB, 0x01]
      { start with regs := { zeroed with a := 0x33 }, env := { Env.initial with handler := .shipped } }
    after s =
      some { s with regs := { s.regs with a := 0x00 }, pc := 0x0102, env := { s.env with portReads := 1 } } := by decide
theorem test_V184_out :
    let s := code [0xD3, 0x02] { start with regs := { zeroed with a := 0x77 } }
    after s =
      some { s with pc := 0x0102, env := { s.env with portWrites := [{ port := 0x02, value := 0x77 }] } } := by decide
theorem test_V185_ei :
    let s := code [0xFB] start
    after s = some { s with pc := 0x0101, ie := true } := by decide
theorem test_V187_di :
    let s := code [0xF3] { start with ie := true }
    after s = some { s with pc := 0x0101, ie := false } := by decide
theorem test_V192_rst3 :
    let s := code [0xDF] { start with sp := 0x2400 }
    after s = some { ((s.writeByte 0x23FE 0x01).writeByte 0x23FF 0x01) with pc := 0x0018, sp := 0x23FE } := by decide
theorem test_V197_rst7 :
    let s := code [0xFF] { start with pc := 0xFFFF }
    after s = some { (s.writeByte 0xFFFF 0x00) with pc := 0x0038, sp := 0xFFFE } := by decide
theorem test_V199_hlt :
    let s := code [0x76] start
    after s = some { s with pc := 0x0101, run := .halted } := by decide

/-! The step, faults, interrupts, reset, load (vectors V200 to V218). -/

/-- The reset state with an UNIMPL_SET. -/
def withoutOpcode (op : Byte) : State := start.setParams { Params.initial with unimplSet := [op] }

theorem test_V200_unimplemented :
    let s := code [0x08] (withoutOpcode 0x08)
    after s = some { s with run := .faulted (.unimplementedOpcode 0x08 0x0100) } ∧
      stepResult s = some (.fault (.unimplementedOpcode 0x08 0x0100)) := by decide
theorem test_V201_stepWhileFaulted :
    failure (step (start.setRun (.faulted (.unimplementedOpcode 0x08 0x0100)))) = some .invalidStepWhileFaulted
      := by decide
theorem test_V203_unimplementedCall :
    let s := (code [0xCD, 0x00, 0x20] (withoutOpcode 0xCD)).setSp 0x2400
    after s = some { s with run := .faulted (.unimplementedOpcode 0xCD 0x0100) } := by decide
theorem test_V204_stepWhileHalted : failure (step (start.setRun .halted)) = some .invalidStepWhileHalted := by decide

/-- V205's start. -/
def enabled : State := { start with pc := 0x0105, sp := 0x2400, ie := true }

theorem test_V205_interruptTaken :
    enabled.interrupt 0x0010 =
      { (enabled.writeByte 0x23FF 0x01).writeByte 0x23FE 0x05 with pc := 0x0010, sp := 0x23FE, ie := false } := by decide
theorem test_V206_interruptDisabled : (enabled.setIe false).interrupt 0x0010 = enabled.setIe false := by decide
theorem test_V207_interruptHalted : (enabled.setRun .halted).interrupt 0x0010 = enabled.setRun .halted := by decide

/-- V205 as a step of the machine: the request comes from IrqInput and is used up. -/
theorem test_interruptIsAStep :
    after (enabled.setIrqInput [some 0x0010, none]) = some ((enabled.interrupt 0x0010).setIrqInput [none]) := by decide

/-- V206 as a step: the request is lost and the instruction runs. -/
theorem test_interruptIsLost :
    after ((start.setIrqInput [some 0x0010])) = some ((start.setPc 0x0101)) := by decide

theorem test_V212_reset :
    State.resetBlock { start with
      regs := { zeroed with a := 0x12 }, flags := { unset with cy := true }, ie := true, mem := [(0, 0xC3)], run := .halted } =
    State.reset := by decide
theorem test_V213_stepAfterReset : after State.reset = some (State.reset.setPc 0x0001) := by decide
theorem test_V214_loadFits :
    State.reset.load { bytes := [0xAA, 0xBB], offset := 0xFFFE } =
      .next (State.reset.setMem [(0xFFFE, 0xAA), (0xFFFF, 0xBB)]) := by rfl
theorem test_V215_loadOutOfRange :
    failure (State.reset.load { bytes := [0xAA, 0xBB], offset := 0xFFFF }) = some .outOfRange := by decide
theorem test_V218_unimplementedHalt :
    let s := code [0x76] (withoutOpcode 0x76)
    after s = some { s with run := .faulted (.unimplementedOpcode 0x76 0x0100) } := by decide

/-- The value an unlisted address reads as leaves no entry. -/
theorem test_memoryCanonical :
    Memory.write 0x00 (Memory.write 0x00 (Memory.write 0x00 [] 0x0002 0x07) 0x0001 0x05) 0x0002 0x00 = [(1, 0x05)]
      := by decide

/-- The state after reset for parameters other than R6's defaults, with the handler the core ships (R6, R60). -/
def otherParams : State := State.resetWith ⟨[], 0xFF, 0x7E⟩ { Env.initial with handler := .shipped }

/-- RESET_MEMORY_BYTE 0xFF: every byte reads as it, 0xFF is the opcode of RST 7, and writing 0xFF leaves no entry. -/
theorem test_resetMemoryByte :
    otherParams.readByte 0x2000 = 0xFF ∧ otherParams.fetched = .rst7 ∧
      ((otherParams.writeByte 0x2000 0x00).writeByte 0x2000 0xFF) = otherParams := by decide
/-- DEFAULT_PORT_READ 0x7E: what the shipped handler answers. -/
theorem test_defaultPortRead :
    let s := code [0xDB, 0x01] otherParams
    after s = some { s with
      regs := { zeroed with a := 0x7E }, pc := 0x0002, env := { s.env with portReads := 1 } } := by decide
/-- Reset keeps the parameters, and R260 fills memory with RESET_MEMORY_BYTE. -/
theorem test_resetKeepsParams : State.resetBlock ((otherParams.writeByte 0x2000 0x01).setRun .halted) = otherParams := by
  decide

/-- The first instruction after reset is the one that is placed. -/
theorem test_withFetchWord :
    after (State.reset.withFetchWord 16 0x423E) =
      some { (code [0x3E, 0x42] State.reset) with regs := { zeroed with a := 0x42 }, pc := 0x0002 } := by decide
theorem test_withFetchWord_hlt : ((after (State.reset.withFetchWord 8 0x76)).map (·.run)) = some .halted := by decide

/-! The witnesses: for each obligation with hypotheses a state and operands that meet all of them together. -/

theorem witness_LogicalResultAndFlags (a v : Byte) :
    (AluOp.ora, a ||| v, false) ∈
      [(AluOp.ana, a &&& v, a.getLsbD 3 || v.getLsbD 3), (AluOp.xra, a ^^^ v, false), (AluOp.ora, a ||| v, false)] := by
  simp

theorem witness_AddThenDecimalAdjust :
    let s := start.setReg .a (bcd 99)
    (99 < 100) ∧ (0 < 100) ∧ s.regs.get .a = bcd 99 := by decide

theorem witness_StatusWordRoundTrips : ∃ t u, exec .pushPSW start = .next t ∧ exec .popPSW t = .next u :=
  ⟨_, _, rfl, rfl⟩

theorem witness_ConditionalTransfers_holds : condTrue .m { unset with s := true } := rfl
theorem witness_ConditionalTransfers_fails : ¬ condTrue .m unset := by
  intro h
  cases h

theorem witness_CallThenReturn :
    ∃ t v, exec (.call 3 0x2000) start = .next t ∧ t.sp = t.sp ∧ t.readByte t.sp = t.readByte t.sp ∧
      t.readByte (t.sp + 1) = t.readByte (t.sp + 1) ∧ exec (.ret 1) t = .next v :=
  ⟨_, _, rfl, rfl, rfl, rfl, rfl⟩

theorem witness_InputHandlers :
    (start.setEnv { Env.initial with handler := .shipped }).env.handler = .shipped ∧
    (start.setEnv { Env.initial with handler := .injected [0x5A] }).env.handler = .injected (0x5A :: []) ∧
    start.env.handler = .injected [] := ⟨rfl, rfl, rfl⟩

/-- Nothing presented, so nothing taken. -/
theorem start_noInterrupt : noInterrupt start := by
  intro target rest h
  cases h

theorem witness_StepRunsTheDecodedInstruction :
    start.run = .running ∧ noInterrupt start ∧ start.readByte start.pc ∉ start.params.unimplSet ∧
      decode [start.readByte start.pc, start.readByte (start.pc + 1), start.readByte (start.pc + 2)] =
        .ok (.nop 0, [0x00, 0x00]) :=
  ⟨rfl, start_noInterrupt, by decide, rfl⟩

/-- A request that cannot be taken meets `noInterrupt` too. -/
theorem witness_noInterrupt_presented : noInterrupt (start.setIrqInput [some 0x0010]) := by
  intro target rest _
  exact .inr rfl

theorem witness_UnimplementedOpcode :
    let s := withoutOpcode 0x00
    s.run = .running ∧ noInterrupt s ∧ s.readByte s.pc ∈ s.params.unimplSet :=
  ⟨rfl, (by intro target rest h; cases h), by decide⟩

theorem witness_StepResults_halted : (start.setRun .halted).run = .halted := rfl
theorem witness_StepResults_faulted :
    (start.setRun (.faulted (.unimplementedOpcode 0x08 0x0100))).run = .faulted (.unimplementedOpcode 0x08 0x0100) := rfl
theorem witness_StepResults_running :
    let s := code [0x76] start
    s.run = .running ∧ s.readByte s.pc ∉ s.params.unimplSet ∧ s.readByte s.pc = 0x76 := by decide
theorem witness_StepResults_otherOpcode :
    start.run = .running ∧ start.readByte start.pc ∉ start.params.unimplSet ∧ start.readByte start.pc ≠ 0x76 := by decide

theorem witness_InterruptPushesPc :
    let s := enabled.setIrqInput [some 0xFFFF]
    s.run = .running ∧ s.ie = true ∧ s.env.irqInput = some 0xFFFF :: [] := ⟨rfl, rfl, rfl⟩

theorem witness_InterruptNotTaken_disabled :
    let s := start.setIrqInput [some 0x0010]
    (s.run ≠ .running ∨ s.ie = false) ∧ s.env.irqInput = some 0x0010 :: [] := by decide
theorem witness_InterruptNotTaken_halted :
    let s := (enabled.setRun .halted).setIrqInput [some 0x0010]
    (s.run ≠ .running ∨ s.ie = false) ∧ s.env.irqInput = some 0x0010 :: [] := by decide

theorem witness_Load_fits : (Segment.mk [0xAA, 0xBB] 0xFFFE).offset + (Segment.mk [0xAA, 0xBB] 0xFFFE).bytes.length ≤ 0x10000 := by
  decide
theorem witness_Load_outOfRange :
    0x10000 < (Segment.mk [0xAA, 0xBB] 0xFFFF).offset + (Segment.mk [0xAA, 0xBB] 0xFFFF).bytes.length := by decide

/-- STA to the byte after it: the next step runs what it stored. -/
theorem witness_StoreIsSeen_opcode :
    let s := start.setReg .a 0x76
    ∃ t, exec (.sta 0x0103) s = .next t ∧ storedBytes (.sta 0x0103) s = [(0x0103, 0x76)] ∧ t.run = .running ∧
      noInterrupt t ∧ afterStores s.readByte (storedBytes (.sta 0x0103) s) t.pc = 0x76 ∧
      afterStores s.readByte (storedBytes (.sta 0x0103) s) t.pc ∉ t.params.unimplSet :=
  ⟨_, rfl, by decide, rfl, (by intro target rest h; cases h), by decide, by decide⟩
/-- SHLD over the operand bytes of the next instruction. -/
theorem witness_StoreIsSeen_operands :
    let s := { code [0x22, 0x04, 0x01, 0xC3] start with regs := { zeroed with h := 0x12, l := 0x34 } }
    ((after s).map fun t => (t.pc, t.fetched)) = some (0x0103, Instr.jmp 0 0x1234) := by decide
/-- A push over the next instruction, and SP that wraps. -/
theorem witness_StoreIsSeen_push :
    let s := { code [0xE5] start with sp := 0x0103, regs := { zeroed with h := 0x42, l := 0x3E } }
    ((after s).map (·.fetched)) = some (.mviA 0x42) ∧
      storedBytes .pushH (s.setSp 0x0001) = [(0x0000, 0x42), (0xFFFF, 0x3E)] := by decide
theorem witness_StoreIsSeen_noTransfer : transfersControl (Instr.sta 0x0103).kind = false := rfl
theorem witness_StoreIsSeen_transfer : ∃ t, exec (.cnz 0x2000) start = .next t ∧ t.pc = 0x2000 := ⟨_, rfl, rfl⟩

theorem witness_DecodeTable_whole : [(0x34 : Byte), 0x12].length = (decodeTable [] 0xC3).operandLength := by decide
theorem witness_DecodeTable_short : [(0x34 : Byte)].length < (decodeTable [] 0xC3).operandLength := by decide
theorem witness_DecodeTable_unimplemented : (0xCB : Byte) ∈ ([0xCB] : List Byte) := by decide
theorem witness_DecodeTable_kind : (0xC3 : Byte) ∉ ([0xCB] : List Byte) := by decide

theorem witness_EncodeInvertsDecode : decode [0xCB, 0x34, 0x12, 0x76] = .ok (.jmp 1 0x1234, [0x76]) := rfl

theorem witness_StepKeepsTheInvariant : State.reset.Inv ∧ ∃ t, step State.reset = .next t :=
  ⟨⟨rfl, by intro value address h; cases h⟩, _, rfl⟩

/-- A faulted machine that meets the invariant. -/
theorem witness_Inv_faulted : ((withoutOpcode 0x00).setRun (.faulted (.unimplementedOpcode 0x00 0x0100))).Inv :=
  ⟨rfl, by intro value address h; cases h; decide⟩

theorem witness_CanonicalMemories :
    let m : Memory := Memory.write 0xFF (Memory.write 0xFF [] 0xFFFF 0x01) 0x0000 0x00
    m = [(0, 0x00), (0xFFFF, 0x01)] ∧ Memory.wf 0xFF m = true ∧ ∀ a, Memory.read 0xFF m a = Memory.read 0xFF m a :=
  ⟨by decide, by decide, fun _ => rfl⟩

theorem witness_RunsOnlyEndByHalting : start.notFaulted ∧ start.params.unimplSet = [] :=
  ⟨(by intro r h; cases h), rfl⟩

theorem witness_FlagsOutsideTheTable : ∃ t, exec (Instr.dadPair .hl) start = .next t := ⟨_, rfl⟩

theorem witness_OnlyListedFlags : agreeOn (flagsRead .ral) { unset with z := true, ac := true } start.flags :=
  ⟨by decide, by decide, by decide, by decide, by decide⟩

theorem witness_PcAdvances : transfersControl Instr.hlt.kind = false ∧ ∃ t, exec .hlt start = .next t := ⟨rfl, _, rfl⟩

theorem witness_ControlState :
    (Instr.outPort 0x02).kind ≠ .input ∧ (Instr.inPort 0x01).kind ≠ .output ∧ ∃ t, exec (.inPort 0x01) start = .next t :=
  ⟨by decide, by decide, _, rfl⟩

theorem witness_StackPointerWriters :
    let i := Instr.inxPair .hl
    movesStack i.kind = false ∧ (∀ v, i ≠ .lxiSP v) ∧ i ≠ .inxSP ∧ i ≠ .dcxSP ∧ storesToMemory i.kind = false ∧
      ∃ t, exec i start = .next t :=
  ⟨rfl, (by intro v h; cases h), by decide, by decide, rfl, _, rfl⟩

end Sys2Proof.Tests
end

section
/-! SUPPORT. What is observed of a state after a register write, a byte store and a PC advance; the bytes and the meaning of
each data transfer family over its operand codes; and the statements of 40_data_transfer.md settled from them. -/

namespace Sys2Proof.Claims

open Sys2Proof.Machine

/-! What is observed after each update. -/

theorem get_setReg_eq_setAt (s : State) (r : Reg) (v : Byte) : (s.setReg r v).regs.get = setAt s.regs.get r v :=
  funext fun r' => Regs.get_set s.regs r r' v

theorem readByte_writeByte_eq_setAt (s : State) (a : Addr) (v : Byte) :
    (s.writeByte a v).readByte = setAt s.readByte a v :=
  funext fun a' => State.readByte_writeByte s a a' v

/-- `next(n)` is seen in PC alone (R9). -/
theorem seen_advance (s : State) (n : Nat) : seen (s.advance n) = { seen s with pc := s.pc + BitVec.ofNat 16 n } := rfl

/-- A register write is seen in that register alone (R21). -/
theorem seen_setReg (s : State) (r : Reg) (v : Byte) :
    seen (s.setReg r v) = { seen s with reg := setAt s.regs.get r v } := by
  rw [← get_setReg_eq_setAt]; rfl

/-- A byte store is seen at its address alone (R53). -/
theorem seen_writeByte (s : State) (a : Addr) (v : Byte) :
    seen (s.writeByte a v) = { seen s with byte := setAt s.readByte a v } := by
  rw [← readByte_writeByte_eq_setAt]; rfl

/-- What an instruction of the shape `r <- v; next(n)` is observed to do. -/
theorem observed_of_setReg_advance {i : Instr} {s : State} {r : Reg} {v : Byte} {n : Nat}
    (h : exec i s = .next ((s.setReg r v).advance n)) :
    ∃ t, exec i s = .next t ∧
      seen t = { seen s with reg := setAt s.regs.get r v, pc := s.pc + BitVec.ofNat 16 n } :=
  ⟨_, h, by rw [seen_advance, seen_setReg, State.setReg_pc]⟩

/-- What an instruction of the shape `MemWrite(a, 1, v); next(n)` is observed to do. -/
theorem observed_of_writeByte_advance {i : Instr} {s : State} {a : Addr} {v : Byte} {n : Nat}
    (h : exec i s = .next ((s.writeByte a v).advance n)) :
    ∃ t, exec i s = .next t ∧
      seen t = { seen s with byte := setAt s.readByte a v, pc := s.pc + BitVec.ofNat 16 n } :=
  ⟨_, h, by rw [seen_advance, seen_writeByte, State.writeByte_pc]⟩

/-! The operands as the statements write them. -/

theorem hl_eq_pairAddr (s : State) : s.hl = pairAddr s .hl := rfl

theorem indAddr_eq_pairAddr (s : State) (p : IndPair) : s.indAddr p = pairAddr s (indPair p) := by
  cases p <;> rfl

/-- Truncation to a byte already drops what `v[7:0]` drops (R8). -/
theorem loByte_eq_ofNat (v : Addr) : loByte v = BitVec.ofNat 8 v.toNat := by
  apply BitVec.eq_of_toNat_eq
  rw [loByte_toNat, BitVec.toNat_ofNat]

/-! The bytes of each family (R85 to R87, R89 to R93). -/

theorem encode_mviReg (r : Reg) (d8 : Byte) :
    encode (Instr.mviReg r d8) = [BitVec.ofNat 8 (0x06 + 8 * r.code), d8] := by
  cases r <;> rfl

theorem encode_movRegReg (dst src : Reg) :
    encode (Instr.movRegReg dst src) = [BitVec.ofNat 8 (0x40 + 8 * dst.code + src.code)] := by
  cases dst <;> cases src <;> rfl

theorem encode_movRegMem (r : Reg) : encode (Instr.movRegMem r) = [BitVec.ofNat 8 (0x46 + 8 * r.code)] := by
  cases r <;> rfl

theorem encode_movMemReg (r : Reg) : encode (Instr.movMemReg r) = [BitVec.ofNat 8 (0x70 + r.code)] := by
  cases r <;> rfl

theorem encode_lda (a16 : Addr) :
    encode (.lda a16) = [0x3A, BitVec.ofNat 8 a16.toNat, BitVec.ofNat 8 (a16.toNat / 256)] := by
  rw [← loByte_eq_ofNat]; rfl

theorem encode_sta (a16 : Addr) :
    encode (.sta a16) = [0x32, BitVec.ofNat 8 a16.toNat, BitVec.ofNat 8 (a16.toNat / 256)] := by
  rw [← loByte_eq_ofNat]; rfl

theorem encode_ldaxPair (p : IndPair) : encode (Instr.ldaxPair p) = [BitVec.ofNat 8 (0x0A + 16 * p.code)] := by
  cases p <;> rfl

theorem encode_staxPair (p : IndPair) : encode (Instr.staxPair p) = [BitVec.ofNat 8 (0x02 + 16 * p.code)] := by
  cases p <;> rfl

/-! The next state of each family. -/

theorem exec_mviReg (s : State) (r : Reg) (d8 : Byte) :
    exec (Instr.mviReg r d8) s = .next ((s.setReg r d8).advance 2) := by
  cases r <;> rfl

theorem exec_mviM (s : State) (d8 : Byte) :
    exec (.mviM d8) s = .next ((s.writeByte (pairAddr s .hl) d8).advance 2) := by
  rw [← hl_eq_pairAddr]; rfl

theorem exec_movRegReg (s : State) (dst src : Reg) :
    exec (Instr.movRegReg dst src) s = .next ((s.setReg dst (s.regs.get src)).advance 1) := by
  cases dst <;> cases src <;> rfl

theorem exec_movRegMem (s : State) (r : Reg) :
    exec (Instr.movRegMem r) s = .next ((s.setReg r (s.readByte (pairAddr s .hl))).advance 1) := by
  rw [← hl_eq_pairAddr]; cases r <;> rfl

theorem exec_movMemReg (s : State) (r : Reg) :
    exec (Instr.movMemReg r) s = .next ((s.writeByte (pairAddr s .hl) (s.regs.get r)).advance 1) := by
  rw [← hl_eq_pairAddr]; cases r <;> rfl

theorem exec_lda (s : State) (a16 : Addr) :
    exec (.lda a16) s = .next ((s.setReg .a (s.readByte a16)).advance 3) := rfl

theorem exec_sta (s : State) (a16 : Addr) :
    exec (.sta a16) s = .next ((s.writeByte a16 (s.regs.get .a)).advance 3) := rfl

theorem exec_ldaxPair (s : State) (p : IndPair) :
    exec (Instr.ldaxPair p) s = .next ((s.setReg .a (s.readByte (pairAddr s (indPair p)))).advance 1) := by
  rw [← indAddr_eq_pairAddr]; cases p <;> rfl

theorem exec_staxPair (s : State) (p : IndPair) :
    exec (Instr.staxPair p) s = .next ((s.writeByte (pairAddr s (indPair p)) (s.regs.get .a)).advance 1) := by
  rw [← indAddr_eq_pairAddr]; cases p <;> rfl

/-! The statements. -/

/-- Settles O2: the register form writes one register, the M form stores one byte at HL, and PC moves past two bytes. -/
theorem moveImmediateStoresOperand : Obligations.MoveImmediateStoresOperand := by
  intro s r d8
  constructor
  · exact ⟨encode_mviReg r d8, observed_of_setReg_advance (exec_mviReg s r d8)⟩
  · exact ⟨rfl, observed_of_writeByte_advance (exec_mviM s d8)⟩

/-- Settles O4: each of the 49 moves writes one register with the old value of the source. -/
theorem moveCopiesRegister : Obligations.MoveCopiesRegister := by
  intro s dst src
  exact ⟨encode_movRegReg dst src, observed_of_setReg_advance (exec_movRegReg s dst src)⟩

/-- Settles O5: the address is HL before the move, so a load of H or L reads the byte at the old HL. -/
theorem moveThroughHLLoadsAndStores : Obligations.MoveThroughHLLoadsAndStores := by
  intro s r
  constructor
  · exact ⟨encode_movRegMem r, observed_of_setReg_advance (exec_movRegMem s r)⟩
  · exact ⟨encode_movMemReg r, observed_of_writeByte_advance (exec_movMemReg s r)⟩

/-- Settles O6: the loads write A alone, the stores write one byte with A. -/
theorem accumulatorLoadsAndStores : Obligations.AccumulatorLoadsAndStores := by
  intro s a16 p
  refine ⟨?lda, ?sta, ?ldax, ?stax⟩
  case lda => exact ⟨encode_lda a16, observed_of_setReg_advance (exec_lda s a16)⟩
  case sta => exact ⟨encode_sta a16, observed_of_writeByte_advance (exec_sta s a16)⟩
  case ldax => exact ⟨encode_ldaxPair p, observed_of_setReg_advance (exec_ldaxPair s p)⟩
  case stax => exact ⟨encode_staxPair p, observed_of_writeByte_advance (exec_staxPair s p)⟩

end Sys2Proof.Claims
end

section
/-! SUPPORT. What is observed of a state after a pair is written; the value of a pair as the statements write it; the bytes
and the meaning of INX, DCX and DAD over the pair codes; and the statements of 41_register_pair.md settled from them. -/

namespace Sys2Proof.Claims

open Sys2Proof.Machine

/-! What is observed after each update. -/

/-- `v[15:8]` is already a byte, so truncation leaves it alone (R8). -/
theorem get_setTwo_eq_setRegs2 (s : State) (hi lo : Reg) (v : Addr) :
    (s.setTwo hi lo v).regs.get = setRegs2 s.regs.get hi lo v := by
  rw [setRegs2, ← loByte_eq_ofNat, State.setTwo, get_setReg_eq_setAt, get_setReg_eq_setAt]; rfl

/-- A word put into two registers is seen in those two alone (R22). -/
theorem seen_setTwo (s : State) (hi lo : Reg) (v : Addr) :
    seen (s.setTwo hi lo v) = { seen s with reg := setRegs2 s.regs.get hi lo v } := by
  rw [← get_setTwo_eq_setRegs2]; rfl

/-- A pair write is seen in that pair alone (R9, R87). -/
theorem seen_setPair (s : State) (p : Pair) (v : Addr) : seen (s.setPair p v) = (seen s).setPair p v := by
  cases p with
  | bc => exact seen_setTwo s .b .c v
  | de => exact seen_setTwo s .d .e v
  | hl => exact seen_setTwo s .h .l v
  | sp => rfl

/-- A write of the flags is seen in them alone. -/
theorem seen_setFlags (s : State) (f : Flags) : seen (s.setFlags f) = { seen s with flags := f } := rfl

/-- What an instruction of the shape `rp16[pp] <- v; next(n)` is observed to do. -/
theorem observed_of_setPair_advance {i : Instr} {s : State} {p : Pair} {v : Addr} {n : Nat}
    (h : exec i s = .next ((s.setPair p v).advance n)) :
    ∃ t, exec i s = .next t ∧ seen t = { (seen s).setPair p v with pc := s.pc + BitVec.ofNat 16 n } :=
  ⟨_, h, by rw [seen_advance, seen_setPair, State.setPair_pc]⟩

/-- What an instruction of the shape `rp16[pp] <- v; flags <- f; next(n)` is observed to do. -/
theorem observed_of_setPair_setFlags_advance {i : Instr} {s : State} {p : Pair} {v : Addr} {f : Flags} {n : Nat}
    (h : exec i s = .next (((s.setPair p v).setFlags f).advance n)) :
    ∃ t, exec i s = .next t ∧
      seen t = { (seen s).setPair p v with flags := f, pc := s.pc + BitVec.ofNat 16 n } :=
  ⟨_, h, by rw [seen_advance, seen_setFlags, seen_setPair, State.setFlags_pc, State.setPair_pc]⟩

/-! The value of a pair as the statements write it. -/

/-- The number in a pair (R8, R22). -/
theorem getPair_toNat (s : State) (p : Pair) : (s.getPair p).toNat = pairNat s p := by
  cases p with
  | bc => exact word16_toNat s.regs.b s.regs.c
  | de => exact word16_toNat s.regs.d s.regs.e
  | hl => exact word16_toNat s.regs.h s.regs.l
  | sp => rfl

theorem getPair_eq_pairAddr (s : State) (p : Pair) : s.getPair p = pairAddr s p := by
  rw [pairAddr, ← getPair_toNat, BitVec.ofNat_toNat, BitVec.setWidth_eq]

theorem getPair_add_one (s : State) (p : Pair) : s.getPair p + 1 = BitVec.ofNat 16 (pairNat s p + 1) := by
  rw [getPair_eq_pairAddr, BitVec.ofNat_add]; rfl

/-- Modulo 2^16, subtracting 1 is adding 65535. -/
theorem getPair_sub_one (s : State) (p : Pair) : s.getPair p - 1 = BitVec.ofNat 16 (pairNat s p + 65535) := by
  have neg_one : -(1 : Addr) = BitVec.ofNat 16 65535 := by decide
  rw [getPair_eq_pairAddr, BitVec.sub_eq_add_neg, neg_one, BitVec.ofNat_add]; rfl

/-! The bytes of each family (R85, R87, R89). -/

theorem encode_inxPair (p : Pair) : encode (Instr.inxPair p) = [BitVec.ofNat 8 (0x03 + 16 * p.code)] := by
  cases p <;> rfl

theorem encode_dcxPair (p : Pair) : encode (Instr.dcxPair p) = [BitVec.ofNat 8 (0x0B + 16 * p.code)] := by
  cases p <;> rfl

theorem encode_dadPair (p : Pair) : encode (Instr.dadPair p) = [BitVec.ofNat 8 (0x09 + 16 * p.code)] := by
  cases p <;> rfl

/-! The next state of each family. -/

theorem exec_inxPair (s : State) (p : Pair) :
    exec (Instr.inxPair p) s = .next ((s.setPair p (BitVec.ofNat 16 (pairNat s p + 1))).advance 1) := by
  rw [← getPair_add_one]; cases p <;> rfl

theorem exec_dcxPair (s : State) (p : Pair) :
    exec (Instr.dcxPair p) s = .next ((s.setPair p (BitVec.ofNat 16 (pairNat s p + 65535))).advance 1) := by
  rw [← getPair_sub_one]; cases p <;> rfl

/-- Each DAD is the one shared addition (R132). -/
theorem exec_dadPair_eq_pairAdd (s : State) (p : Pair) : exec (Instr.dadPair p) s = pairAdd p s := by
  cases p <;> rfl

/-- The sum of two words is at most 17 bits, and CY is its bit 16 (R132). -/
theorem exec_dadPair (s : State) (p : Pair) :
    exec (Instr.dadPair p) s =
      .next (((s.setPair .hl (BitVec.ofNat 16 (pairNat s .hl + pairNat s p))).setFlags
        { s.flags with cy := decide (65535 < pairNat s .hl + pairNat s p) }).advance 1) := by
  have hl : s.hl.toNat = pairNat s .hl := getPair_toNat s .hl
  rw [exec_dadPair_eq_pairAdd, pairAdd, hl, getPair_toNat, carryFlagAdd_word]; rfl

/-! The statements. -/

/-- Settles O8: both families write one pair and PC, so every flag is as before. -/
theorem pairIncrementAndDecrementWrap : Obligations.PairIncrementAndDecrementWrap := by
  intro s p
  constructor
  · exact ⟨encode_inxPair p, observed_of_setPair_advance (exec_inxPair s p)⟩
  · exact ⟨encode_dcxPair p, observed_of_setPair_advance (exec_dcxPair s p)⟩

/-- Settles O9: HL takes the sum and CY its carry; the other flags keep their values. -/
theorem pairAddWritesHLAndCarry : Obligations.PairAddWritesHLAndCarry := by
  intro s p
  exact ⟨encode_dadPair p, observed_of_setPair_setFlags_advance (exec_dadPair s p)⟩

end Sys2Proof.Claims
end

section
/-! SUPPORT. What is observed of a state after a push and after a pop; the bytes and the meaning of PUSH and POP over the
pair codes; and two statements of 43_stack.md settled from them. -/

namespace Sys2Proof.Claims

open Sys2Proof.Machine

/-! What is observed after each update. -/

/-- The bytes a push leaves: the high half at SP-1, then the low half at SP-2 (R180). -/
theorem readByte_push16_eq_pushed (s : State) (v : Addr) : (s.push16 v).readByte = pushed s v := by
  rw [pushed, ← loByte_eq_ofNat, ← readByte_writeByte_eq_setAt s, ← readByte_writeByte_eq_setAt]; rfl

/-- A push is seen in the two bytes below SP and in SP alone (R180). -/
theorem seen_push16 (s : State) (v : Addr) :
    seen (s.push16 v) = { seen s with byte := pushed s v, sp := s.sp - 2 } := by
  rw [← readByte_push16_eq_pushed]; rfl

theorem stackTop_eq_topWord (s : State) : s.stackTop = topWord s := rfl

/-- A pop is seen in SP alone: the byte at the old SP stays in memory (R181). -/
theorem seen_dropTop (s : State) : seen s.dropTop = { seen s with sp := s.sp + 2 } := rfl

/-- The byte above the new SP is the high byte, at SP-1 also where the addresses wrap, so the word is whole (R180, R181). -/
theorem stackTop_push16 (s : State) (v : Addr) : (s.push16 v).stackTop = v := by
  have above : s.sp - 2 + 1 = s.sp - 1 := by bv_omega
  have apart : s.sp - 1 ≠ s.sp - 2 := by bv_omega
  have hi : (s.push16 v).readByte (s.sp - 1) = hiByte v := by
    rw [State.readByte_push16, if_neg apart, if_pos rfl]
  have lo : (s.push16 v).readByte (s.sp - 2) = loByte v := by
    rw [State.readByte_push16, if_pos rfl]
  rw [State.stackTop, State.push16_sp, above, hi, lo, word16_bytes]

/-- A pop after a push restores SP (R180, R181). -/
theorem dropTop_push16_sp (s : State) (v : Addr) : (s.push16 v).dropTop.sp = s.sp := by
  rw [State.dropTop_sp, State.push16_sp, BitVec.sub_add_cancel]

/-- What an instruction of the shape `push16(v); next(n)` is observed to do. -/
theorem observed_of_push16_advance {i : Instr} {s : State} {v : Addr} {n : Nat}
    (h : exec i s = .next ((s.push16 v).advance n)) :
    ∃ t, exec i s = .next t ∧
      seen t = { seen s with byte := pushed s v, sp := s.sp - 2, pc := s.pc + BitVec.ofNat 16 n } :=
  ⟨_, h, by rw [seen_advance, seen_push16, State.push16_pc]⟩

/-- PUSH and POP name no pair that is SP, so the write of the popped pair leaves SP where the pop put it (R87, R183). -/
theorem setPair_stackPair_comm_sp (o : Observed) (p : StackPair) (v sp : Addr) :
    { o with sp := sp }.setPair (stackPair p) v = { o.setPair (stackPair p) v with sp := sp } := by
  cases p <;> rfl

/-- What an instruction of the shape `rp16[pp] <- pop16(); next(n)` is observed to do. -/
theorem observed_of_pop_advance {i : Instr} {s : State} {p : StackPair} {n : Nat}
    (h : exec i s = .next ((s.dropTop.setPair (stackPair p) (topWord s)).advance n)) :
    ∃ t, exec i s = .next t ∧
      seen t = { (seen s).setPair (stackPair p) (topWord s) with sp := s.sp + 2, pc := s.pc + BitVec.ofNat 16 n } :=
  ⟨_, h, by rw [seen_advance, seen_setPair, State.setPair_pc, seen_dropTop, setPair_stackPair_comm_sp]; rfl⟩

/-! The bytes of each family (R85, R87). -/

theorem encode_pushPair (p : StackPair) : encode (Instr.pushPair p) = [BitVec.ofNat 8 (0xC5 + 16 * p.code)] := by
  cases p <;> rfl

theorem encode_popPair (p : StackPair) : encode (Instr.popPair p) = [BitVec.ofNat 8 (0xC1 + 16 * p.code)] := by
  cases p <;> rfl

/-! The next state of each family. -/

theorem exec_pushPair (s : State) (p : StackPair) :
    exec (Instr.pushPair p) s = .next ((s.push16 (pairAddr s (stackPair p))).advance 1) := by
  rw [← getPair_eq_pairAddr]; cases p <;> rfl

theorem exec_popPair (s : State) (p : StackPair) :
    exec (Instr.popPair p) s = .next ((s.dropTop.setPair (stackPair p) (topWord s)).advance 1) := by
  rw [← stackTop_eq_topWord]; cases p <;> rfl

/-! The statements. -/

/-- Settles O21: the two bytes of a push are at different addresses for every SP, so the pop reads both back. -/
theorem pushThenPopReturnsTheWord : Obligations.PushThenPopReturnsTheWord := by
  intro s v
  exact ⟨seen_push16 s v, stackTop_eq_topWord s, seen_dropTop s, stackTop_push16 s v, dropTop_push16_sp s v⟩

/-- Settles O22: PUSH writes the two bytes below SP and SP, POP one register pair and SP; both move PC by one. -/
theorem pushAndPopOfPairs : Obligations.PushAndPopOfPairs := by
  intro s p
  constructor
  · exact ⟨encode_pushPair p, observed_of_push16_advance (exec_pushPair s p)⟩
  · exact ⟨encode_popPair p, observed_of_pop_advance (exec_popPair s p)⟩

end Sys2Proof.Claims
end

section
/-! SUPPORT. A shift of A with CY as the bit that enters, as the model computes it and as the statements write it; the
meaning of the rotates over their operation codes; and one statement of 45_rotate_exchange.md settled from them. -/

namespace Sys2Proof.Claims

open Sys2Proof.Machine

/-! The rotated byte as the statements write it. -/

/-- The shift left leaves bit 0 clear, so adding the bit that enters there is an OR (R212). -/
theorem ofNat_double_add_carry (a : Byte) (cy : Bool) :
    BitVec.ofNat 8 (a.toNat * 2 + cy.toNat) = (a <<< 1) ||| (if cy then 0x01 else 0x00) := by
  have disjoint : a.toNat * 2 + cy.toNat = a.toNat <<< 1 ||| cy.toNat := by
    rw [← Nat.shiftLeft_add_eq_or_of_lt cy.toNat_lt, Nat.shiftLeft_eq, Nat.pow_one]
  rw [disjoint, BitVec.ofNat_or]
  cases cy <;> rfl

/-- The shift right leaves bit 7 clear, so adding the bit that enters there is an OR (R213). -/
theorem ofNat_half_add_carry (a : Byte) (cy : Bool) :
    BitVec.ofNat 8 (a.toNat / 2 + cy.toNat * 128) = (a >>> 1) ||| (if cy then 0x80 else 0x00) := by
  have half_lt : a.toNat / 2 < 2 ^ 7 := by have := a.isLt; omega
  have disjoint : a.toNat / 2 + cy.toNat * 128 = cy.toNat <<< 7 ||| a.toNat / 2 := by
    rw [← Nat.shiftLeft_add_eq_or_of_lt half_lt, Nat.shiftLeft_eq, Nat.add_comm]
  have shifted : BitVec.ofNat 8 (a.toNat / 2) = a >>> 1 := by
    rw [← Nat.pow_one 2, ← Nat.shiftRight_eq_div_pow, ← BitVec.toNat_ushiftRight, BitVec.ofNat_toNat, BitVec.setWidth_eq]
  rw [disjoint, BitVec.ofNat_or, shifted, BitVec.or_comm]
  cases cy <;> rfl

/-! What is observed, and the next state of the family. -/

/-- What an instruction of the shape `r <- v; flags <- f; next(n)` is observed to do. -/
theorem observed_of_setReg_setFlags_advance {i : Instr} {s : State} {r : Reg} {v : Byte} {f : Flags} {n : Nat}
    (h : exec i s = .next (((s.setReg r v).setFlags f).advance n)) :
    ∃ t, exec i s = .next t ∧
      seen t = { seen s with reg := setAt s.regs.get r v, flags := f, pc := s.pc + BitVec.ofNat 16 n } :=
  ⟨_, h, by rw [seen_advance, seen_setFlags, seen_setReg, State.setFlags_pc, State.setReg_pc]⟩

/-- Each rotate writes A and CY with the two parts of `rotate8` (R210 to R213). -/
theorem exec_rotate (s : State) (op : RotateOp) :
    exec (Instr.rotate op) s =
      .next (((s.setReg .a (rotate8 op (s.regs.get .a) s.flags.cy).1).setFlags
        { s.flags with cy := (rotate8 op (s.regs.get .a) s.flags.cy).2 }).advance 1) := by
  cases op <;> rfl

theorem exec_ral (s : State) :
    exec .ral s =
      .next (((s.setReg .a ((s.regs.get .a <<< 1) ||| (if s.flags.cy then 0x01 else 0x00))).setFlags
        { s.flags with cy := (s.regs.get .a).getLsbD 7 }).advance 1) := by
  rw [← ofNat_double_add_carry]; exact exec_rotate s .ral

theorem exec_rar (s : State) :
    exec .rar s =
      .next (((s.setReg .a ((s.regs.get .a >>> 1) ||| (if s.flags.cy then 0x80 else 0x00))).setFlags
        { s.flags with cy := (s.regs.get .a).getLsbD 0 }).advance 1) := by
  rw [← ofNat_half_add_carry]; exact exec_rotate s .rar

/-! The statement. -/

/-- Settles O31: the old CY enters at the bit the shift leaves clear, and CY takes the bit shifted out. -/
theorem rotatesThroughCarry : Obligations.RotatesThroughCarry := by
  intro s
  constructor
  · exact ⟨rfl, observed_of_setReg_setFlags_advance (exec_ral s)⟩
  · exact ⟨rfl, observed_of_setReg_setFlags_advance (exec_rar s)⟩

end Sys2Proof.Claims
end

section
/-! SUPPORT. The bytes of an instruction and the instruction of its bytes, each the inverse of the other; the operand bytes
read only as far as the opcode's length; and the statements of 30_encoding.md settled from them. -/

namespace Sys2Proof.Claims

open Sys2Proof.Machine

/-! Decode after encode. -/

/-- An instruction whose operand is a word is read back from its opcode and the two bytes of the word (R83). -/
theorem decode_encode_word {op : Byte} {mk : Addr → Instr}
    (henc : ∀ v, encode (mk v) = [op, loByte v, hiByte v])
    (hdec : ∀ b2 b3 rest, decode (op :: b2 :: b3 :: rest) = .ok (mk (word16 b3 b2), rest)) (v : Addr) (rest : List Byte) :
    decode (encode (mk v) ++ rest) = .ok (mk v, rest) := by
  have h := hdec (loByte v) (hiByte v) rest
  rw [word16_bytes] at h
  rw [henc]
  exact h

/-- The eight NOP opcodes, 00nnn000, are read back with their bits 5..3 (R85, R95). -/
theorem decodeOp_nop : ∀ nnn : BitVec 3, decodeOp (BitVec.ofNat 8 (0x00 + 8 * nnn.toNat)) 0 0 = .nop nnn := by decide

/-- The two JMP opcodes are read back with their bit 3 (R95). -/
theorem decodeOp_jmp (x : BitVec 1) (b2 b3 : Byte) :
    decodeOp (BitVec.ofNat 8 (0xC3 + 8 * x.toNat)) b2 b3 = .jmp x (word16 b3 b2) := by
  have values : ∀ x : BitVec 1, x = 0 ∨ x = 1 := by decide
  obtain rfl | rfl := values x
  · rfl
  · rfl

/-- The two RET opcodes are read back with their bit 4 (R95). -/
theorem decodeOp_ret : ∀ x : BitVec 1, decodeOp (BitVec.ofNat 8 (0xC9 + 16 * x.toNat)) 0 0 = .ret x := by decide

/-- The four CALL opcodes are read back with their bits 5..4 (R95). -/
theorem decodeOp_call (xx : BitVec 2) (b2 b3 : Byte) :
    decodeOp (BitVec.ofNat 8 (0xCD + 16 * xx.toNat)) b2 b3 = .call xx (word16 b3 b2) := by
  have values : ∀ xx : BitVec 2, xx = 0 ∨ xx = 1 ∨ xx = 2 ∨ xx = 3 := by decide
  obtain rfl | rfl | rfl | rfl := values xx
  · rfl
  · rfl
  · rfl
  · rfl

theorem decode_of_length_zero {op : Byte} {i : Instr} (h : decodeOp op 0 0 = i) (hl : i.operandLength = 0)
    (rest : List Byte) : decode (op :: rest) = .ok (i, rest) := by
  subst h
  simp only [decode, hl]

theorem decode_of_length_two {op : Byte} {mk : Addr → Instr} (h : ∀ b2 b3, decodeOp op b2 b3 = mk (word16 b3 b2))
    (hl : ∀ v, (mk v).operandLength = 2) (b2 b3 : Byte) (rest : List Byte) :
    decode (op :: b2 :: b3 :: rest) = .ok (mk (word16 b3 b2), rest) := by
  simp only [decode, h, hl]

/-- Decoding the bytes of an instruction gives it back and leaves what follows: the free opcode bits by their values, a word
by its two bytes, and every other instruction by its opcode and at most one byte. -/
theorem decode_encode (i : Instr) (rest : List Byte) : decode (encode i ++ rest) = .ok (i, rest) := by
  cases i
  case nop nnn => exact decode_of_length_zero (decodeOp_nop nnn) rfl rest
  case ret x => exact decode_of_length_zero (decodeOp_ret x) rfl rest
  case jmp x a16 =>
    exact decode_encode_word (fun _ => rfl) (decode_of_length_two (decodeOp_jmp x) fun _ => rfl) a16 rest
  case call xx a16 =>
    exact decode_encode_word (fun _ => rfl) (decode_of_length_two (decodeOp_call xx) fun _ => rfl) a16 rest
  case lxiB v | lxiD v | lxiH v | lxiSP v | shld v | lhld v | sta v | lda v =>
    exact decode_encode_word (fun _ => rfl) (fun _ _ _ => rfl) v rest
  case jnz v | jz v | jnc v | jc v | jpo v | jpe v | jp v | jm v =>
    exact decode_encode_word (fun _ => rfl) (fun _ _ _ => rfl) v rest
  case cnz v | cz v | cnc v | cc v | cpo v | cpe v | cp v | cm v =>
    exact decode_encode_word (fun _ => rfl) (fun _ _ _ => rfl) v rest
  all_goals rfl

/-! Encode after decode. -/

/-- The operand bytes of an instruction, of which a word is stored as its low and its high byte (R83). -/
def operandBytes (length : Nat) (b2 b3 : Byte) : List Byte :=
  match length with
  | 0 => []
  | 1 => [b2]
  | _ => [loByte (word16 b3 b2), hiByte (word16 b3 b2)]

theorem operandBytes_eq_take {length : Nat} (h : length ≤ 2) (b2 b3 : Byte) :
    operandBytes length b2 b3 = [b2, b3].take length := by
  obtain rfl | rfl | rfl : length = 0 ∨ length = 1 ∨ length = 2 := by omega
  · rfl
  · rfl
  · simp [operandBytes]

theorem hexDigit_cases {n : Nat} (h : n < 16) :
    n = 0 ∨ n = 1 ∨ n = 2 ∨ n = 3 ∨ n = 4 ∨ n = 5 ∨ n = 6 ∨ n = 7 ∨ n = 8 ∨ n = 9 ∨
      n = 10 ∨ n = 11 ∨ n = 12 ∨ n = 13 ∨ n = 14 ∨ n = 15 := by
  omega

/-- Row by row and column by column of the map of R93. -/
theorem encode_decodeOp_eq_operandBytes (op b2 b3 : Byte) :
    encode (decodeOp op b2 b3) = op :: operandBytes (decodeOp op b2 b3).operandLength b2 b3 := by
  have every : ∀ hi < 16, ∀ lo < 16, encode (decodeOp (BitVec.ofNat 8 (16 * hi + lo)) b2 b3) =
      BitVec.ofNat 8 (16 * hi + lo) ::
        operandBytes (decodeOp (BitVec.ofNat 8 (16 * hi + lo)) b2 b3).operandLength b2 b3 := by
    intro hi hhi lo hlo
    obtain rfl | rfl | rfl | rfl | rfl | rfl | rfl | rfl | rfl | rfl | rfl | rfl | rfl | rfl | rfl | rfl :=
      hexDigit_cases hhi <;>
    obtain rfl | rfl | rfl | rfl | rfl | rfl | rfl | rfl | rfl | rfl | rfl | rfl | rfl | rfl | rfl | rfl :=
      hexDigit_cases hlo <;> rfl
  have h := every (op.toNat / 16) (by have := op.isLt; omega) (op.toNat % 16) (Nat.mod_lt _ (by decide))
  rwa [Nat.div_add_mod, BitVec.ofNat_toNat, BitVec.setWidth_eq] at h

/-- Each opcode byte and its operand bytes are the encoding of what they decode to: no bit is dropped (R82, R93). -/
theorem encode_decodeOp (op b2 b3 : Byte) :
    encode (decodeOp op b2 b3) = op :: [b2, b3].take (decodeOp op b2 b3).operandLength := by
  rw [encode_decodeOp_eq_operandBytes, operandBytes_eq_take (operandLength_le _)]

/-- The length is a matter of the opcode byte alone (R82). -/
theorem operandLength_decodeOp (op b2 b3 : Byte) :
    (decodeOp op b2 b3).operandLength = (decodeOp op 0 0).operandLength :=
  (sameOpcode_decodeOp op b2 b3 0 0).1

/-- The opcode byte, as many of the two bytes after it as its length says, and anything after them (R82, R98). -/
theorem decode_take (op b2 b3 : Byte) (rest : List Byte) :
    decode (op :: ([b2, b3].take (decodeOp op 0 0).operandLength ++ rest)) = .ok (decodeOp op b2 b3, rest) := by
  have h := decode_encode (decodeOp op b2 b3) rest
  rwa [encode_decodeOp, operandLength_decodeOp] at h

/-- Three bytes are always enough for the instruction at their head (R82). -/
theorem decode_three (op b2 b3 : Byte) : ∃ rest, decode [op, b2, b3] = .ok (decodeOp op b2 b3, rest) := by
  have h := decode_take op b2 b3 ([b2, b3].drop (decodeOp op 0 0).operandLength)
  rw [List.take_append_drop] at h
  exact ⟨_, h⟩

/-- Everything the decoder can do when it accepts: the opcode byte says how many bytes it reads (R82). -/
theorem decode_ok_cases {bytes rest : List Byte} {i : Instr} (h : decode bytes = .ok (i, rest)) :
    ∃ op b2 b3, i = decodeOp op b2 b3 ∧ bytes = op :: ([b2, b3].take i.operandLength ++ rest) := by
  unfold decode at h
  split at h
  · cases h
  next op tail =>
    split at h
    next hl => cases h; exact ⟨op, 0, 0, rfl, by rw [hl]; rfl⟩
    next b2 tail hl => cases h; exact ⟨op, b2, 0, rfl, by rw [operandLength_decodeOp, hl]; rfl⟩
    next b2 b3 tail hl => cases h; exact ⟨op, b2, b3, rfl, by rw [operandLength_decodeOp, hl]; rfl⟩
    · cases h

/-- An instruction that lacks operand bytes is refused (R98). -/
theorem decode_missing {op : Byte} {operands : List Byte} (h : operands.length < (decodeOp op 0 0).operandLength) :
    decode (op :: operands) = .error (.missingOperand op) := by
  simp only [decode]
  split
  next hl => omega
  next hl => rw [hl, List.length_cons] at h; omega
  next hl => rw [hl, List.length_cons, List.length_cons] at h; omega
  · rfl

/-! The statements. -/

/-- Settles O40: from the instruction's own bytes, the free opcode bits and both bytes of a word among them. -/
theorem decodeInvertsEncode : Obligations.DecodeInvertsEncode := decode_encode

/-- Settles O41: the bytes read are the opcode and its operand bytes, which are the encoding of the term they decode to. -/
theorem encodeInvertsDecode : Obligations.EncodeInvertsDecode := by
  intro bytes rest i h
  obtain ⟨op, b2, b3, rfl, hbytes⟩ := decode_ok_cases h
  rw [hbytes, encode_decodeOp, List.cons_append]

/-- At most two bytes are the first of two. -/
theorem exists_eq_take {l : List Byte} (h : l.length ≤ 2) : ∃ b2 b3, l = [b2, b3].take l.length := by
  match l, h with
  | [], _ => exact ⟨0, 0, rfl⟩
  | [b2], _ => exact ⟨b2, 0, rfl⟩
  | [b2, b3], _ => exact ⟨b2, b3, rfl⟩

/-- An opcode outside UNIMPL_SET has the kind of its instruction (R96). -/
theorem decodeTable_kind_of_not_mem {op : Byte} {unimplSet : List Byte} (h : op ∉ unimplSet) :
    (decodeTable unimplSet op).kind = (decodeOp op 0 0).kind := by simp [decodeTable, h]

/-- An opcode of UNIMPL_SET has the kind Unimplemented (R96). -/
theorem decodeTable_kind_of_mem {op : Byte} {unimplSet : List Byte} (h : op ∈ unimplSet) :
    (decodeTable unimplSet op).kind = .unimplemented := by simp [decodeTable, h]

/-- Settles O42: length, mnemonic and kind are those of the opcode byte with any operand bytes. -/
theorem decodeTableGivesTheLength : Obligations.DecodeTableGivesTheLength := by
  intro op unimplSet operands rest entry
  have hlen : entry.operandLength = (decodeOp op 0 0).operandLength := rfl
  refine ⟨fun h => ?whole, decodeTable_kind_of_mem, fun h => decode_missing h⟩
  case whole =>
    obtain ⟨b2, b3, hops⟩ := exists_eq_take (l := operands) (by rw [h, hlen]; exact operandLength_le _)
    obtain ⟨hlength, hmnemonic, hkind⟩ := sameOpcode_decodeOp op b2 b3 0 0
    refine ⟨decodeOp op b2 b3, ?_, hlength, hmnemonic, fun hm => ?_⟩
    · rw [hops, h]; exact decode_take op b2 b3 rest
    · rw [hkind]; exact (decodeTable_kind_of_not_mem hm).symm

/-- Settles O39: one word of each of ten patterns. -/
theorem writtenWordsDecode : Obligations.WrittenWordsDecode := by
  intro b2 b3
  exact ⟨rfl, rfl, rfl, rfl, rfl, rfl, rfl, rfl, rfl, rfl⟩

end Sys2Proof.Claims
end

section
/-! SUPPORT. What each of the 48 forms leaves as it was: the control state, SP, the flags outside the table, the canonical
form of memory; and where it leaves PC. -/

namespace Sys2Proof.Machine

open Sys2Proof.Claims

/-! The ALU operations write A and the flags alone (R143), a pair write no byte of memory. -/

@[simp] theorem aluApply_pc (op : AluOp) (v : Byte) (s : State) : (aluApply op v s).pc = s.pc := by cases op <;> rfl
@[simp] theorem aluApply_sp (op : AluOp) (v : Byte) (s : State) : (aluApply op v s).sp = s.sp := by cases op <;> rfl
@[simp] theorem aluApply_ie (op : AluOp) (v : Byte) (s : State) : (aluApply op v s).ie = s.ie := by cases op <;> rfl
@[simp] theorem aluApply_run (op : AluOp) (v : Byte) (s : State) : (aluApply op v s).run = s.run := by cases op <;> rfl
@[simp] theorem aluApply_mem (op : AluOp) (v : Byte) (s : State) : (aluApply op v s).mem = s.mem := by cases op <;> rfl
@[simp] theorem aluApply_params (op : AluOp) (v : Byte) (s : State) : (aluApply op v s).params = s.params := by
  cases op <;> rfl
@[simp] theorem aluApply_env (op : AluOp) (v : Byte) (s : State) : (aluApply op v s).env = s.env := by cases op <;> rfl
@[simp] theorem State.readByte_aluApply (op : AluOp) (v : Byte) (s : State) (a : Addr) :
    (aluApply op v s).readByte a = s.readByte a :=
  State.readByte_congr (aluApply_mem op v s) (aluApply_params op v s) a

@[simp] theorem State.readByte_setPair (s : State) (p : Pair) (v a : Addr) :
    (s.setPair p v).readByte a = s.readByte a :=
  State.readByte_congr (State.setPair_mem s p v) (State.setPair_params s p v) a

/-! A write to a port leaves the rest of the environment (R221). -/

@[simp] theorem State.portWrite_irqInput (s : State) (port v : Byte) :
    (s.portWrite port v).env.irqInput = s.env.irqInput := by rw [State.portWrite_eq]; rfl
@[simp] theorem State.portWrite_handler (s : State) (port v : Byte) :
    (s.portWrite port v).env.handler = s.env.handler := by rw [State.portWrite_eq]; rfl
@[simp] theorem State.portWrite_portReads (s : State) (port v : Byte) :
    (s.portWrite port v).env.portReads = s.env.portReads := by rw [State.portWrite_eq]; rfl

/-! A return leaves all but PC and SP (R195). -/

@[simp] theorem State.returnPop_flags (s : State) : s.returnPop.flags = s.flags := rfl
@[simp] theorem State.returnPop_ie (s : State) : s.returnPop.ie = s.ie := rfl
@[simp] theorem State.returnPop_run (s : State) : s.returnPop.run = s.run := rfl
@[simp] theorem State.returnPop_mem (s : State) : s.returnPop.mem = s.mem := rfl
@[simp] theorem State.returnPop_env (s : State) : s.returnPop.env = s.env := rfl
@[simp] theorem State.readByte_returnPop (s : State) (a : Addr) : s.returnPop.readByte a = s.readByte a := rfl

/-! Every form. -/

/-- EI and DI alone reach IE, HLT alone RUN, IN alone the handler, OUT alone the events (R39, R40, R220, R221). -/
theorem Form.run_control {f : Form} {s t : State} (h : f.run s = .next t) :
    (t.ie = if f.kind = .enableInterrupts then true else if f.kind = .disableInterrupts then false else s.ie) ∧
    (t.run = if f.kind = .halt then .halted else s.run) ∧
    t.env.irqInput = s.env.irqInput ∧
    (f.kind ≠ .input → t.env.handler = s.env.handler ∧ t.env.portReads = s.env.portReads) ∧
    (f.kind ≠ .output → t.env.portWrites = s.env.portWrites) := by
  cases f
  case conditionalJump => rcases conditionalJump_cases h with ⟨_, rfl⟩ | ⟨_, rfl⟩ <;> simp [Form.kind]
  case conditionalCall => rcases conditionalCall_cases h with ⟨_, rfl⟩ | ⟨_, rfl⟩ <;> simp [Form.kind]
  case conditionalReturn => rcases conditionalReturn_cases h with ⟨_, rfl⟩ | ⟨_, rfl⟩ <;> simp [Form.kind]
  case input => cases h; simp [Form.kind, State.portReadDone]
  all_goals cases h; simp [Form.kind, State.writeM]

/-- A form that is no transfer of control moves PC past its bytes (R26). -/
theorem Form.run_pc {f : Form} {s t : State} (hk : transfersControl f.kind = false) (h : f.run s = .next t) :
    t.pc = s.pc + BitVec.ofNat 16 (1 + f.operandLength) := by
  cases f
  case conditionalJump | conditionalCall | conditionalReturn | jump | jumpHL | call | returnFromCall | restart => cases hk
  all_goals cases h; simp [Form.operandLength, State.writeM]

/-- The forms that name a pair, and so write SP when the pair is SP (R28). -/
def Form.writesPairSP : Form → Prop
  | .loadPairImmediate p _ | .pairIncrement p | .pairDecrement p => p = .sp
  | _ => False

theorem State.setPair_sp {p : Pair} (hp : p ≠ .sp) (s : State) (v : Addr) : (s.setPair p v).sp = s.sp := by
  cases p with
  | bc | de | hl => rfl
  | sp => exact absurd rfl hp

/-- A form outside the list of SP's writers leaves SP (R28). -/
theorem Form.run_sp {f : Form} {s t : State} (hk : movesStack f.kind = false) (hp : ¬ f.writesPairSP)
    (h : f.run s = .next t) : t.sp = s.sp := by
  cases f
  case conditionalCall | conditionalReturn | call | returnFromCall | restart | push | pop | pushPSW | popPSW
    | loadSPFromHL => cases hk
  case conditionalJump => rcases conditionalJump_cases h with ⟨_, rfl⟩ | ⟨_, rfl⟩ <;> rfl
  case loadPairImmediate | pairIncrement | pairDecrement => cases h; exact State.setPair_sp hp _ _
  all_goals cases h; simp [State.writeM]

/-- A form leaves each flag that the table does not give it (R35). -/
theorem Form.run_flags {f : Form} {s t : State} (h : f.run s = .next t) :
    agreeOn (flagsWritten f.kind).others t.flags s.flags := by
  cases f
  case conditionalJump => rcases conditionalJump_cases h with ⟨_, rfl⟩ | ⟨_, rfl⟩ <;> simp [agreeOn]
  case conditionalCall => rcases conditionalCall_cases h with ⟨_, rfl⟩ | ⟨_, rfl⟩ <;> simp [agreeOn]
  case conditionalReturn => rcases conditionalReturn_cases h with ⟨_, rfl⟩ | ⟨_, rfl⟩ <;> simp [agreeOn]
  case aluRegister | aluMemory | aluImmediate => simp [agreeOn, Form.kind, flagsWritten, FlagSet.others]
  all_goals cases h; simp [agreeOn, Form.kind, flagsWritten, FlagSet.others, State.writeM]

/-- A form keeps the canonical form of memory (log entry 8). -/
theorem Form.run_wf {f : Form} {s t : State} (h : f.run s = .next t)
    (hwf : Memory.wf s.params.resetMemoryByte s.mem = true) : Memory.wf t.params.resetMemoryByte t.mem = true := by
  have hparams := Form.run_params h
  rw [hparams]
  cases f
  case conditionalJump => rcases conditionalJump_cases h with ⟨_, rfl⟩ | ⟨_, rfl⟩ <;> exact hwf
  case conditionalReturn => rcases conditionalReturn_cases h with ⟨_, rfl⟩ | ⟨_, rfl⟩ <;> exact hwf
  case conditionalCall =>
    rcases conditionalCall_cases h with ⟨_, rfl⟩ | ⟨_, rfl⟩
    · exact State.wf_enterAt _ _ _ hwf
    · exact hwf
  case call | restart => cases h; exact State.wf_enterAt _ _ _ hwf
  case push | pushPSW => cases h; exact State.wf_push16 _ _ hwf
  case storeHLDirect | exchangeStackTop => cases h; exact State.wf_writeWord _ _ _ hwf
  case storeAccDirect | storeAccIndirect | moveToMemory | moveImmediateToMemory | incrementMemory | decrementMemory =>
    cases h; exact State.wf_writeByte _ _ _ hwf
  all_goals cases h; simpa using hwf

end Sys2Proof.Machine
end

section
/-! SUPPORT. The bytes each form stores, and the flags each form reads; and the statements about every instruction settled
from the rules about the forms. -/

namespace Sys2Proof.Claims

open Sys2Proof.Machine

/-! The stored bytes of a form. -/

/-- What a form stores, as `storedBytes` says it of the instructions. -/
def formStores : Form → State → List (Addr × Byte)
  | .moveToMemory src, s => [(pairAddr s .hl, s.regs.get src)]
  | .moveImmediateToMemory d8, s => [(pairAddr s .hl, d8)]
  | .incrementMemory, s => [(pairAddr s .hl, s.readByte (pairAddr s .hl) + 1)]
  | .decrementMemory, s => [(pairAddr s .hl, s.readByte (pairAddr s .hl) - 1)]
  | .storeAccDirect a16, s => [(a16, s.regs.get .a)]
  | .storeHLDirect a16, s => [(a16, s.regs.get .l), (a16 + 1, s.regs.get .h)]
  | .storeAccIndirect p, s => [(pairAddr s (indPair p), s.regs.get .a)]
  | .push p, s => pushedBytes s (pairAddr s (stackPair p))
  | .pushPSW, s => [(s.sp - 1, s.regs.get .a), (s.sp - 2, s.flags.pswByte)]
  | .exchangeStackTop, s => [(s.sp, s.regs.get .l), (s.sp + 1, s.regs.get .h)]
  | .call _, s => pushedBytes s (s.pc + 3)
  | .conditionalCall cond _, s => if condHolds cond s.flags then pushedBytes s (s.pc + 3) else []
  | .restart _, s => pushedBytes s (s.pc + 1)
  | _, _ => []

/-- A choice by a flag is the other choice by its complement, as `condHolds` reads NZ, NC, PO and P (R88). -/
theorem ite_eq_ite_not (flag : Bool) (unset set : List (Addr × Byte)) :
    (if flag then set else unset) = if !flag then unset else set := by
  cases flag <;> rfl

theorem storedBytes_eq_formStores (i : Instr) (s : State) : storedBytes i s = formStores (formOf i) s := by
  cases i
  case cnz => exact ite_eq_ite_not s.flags.z _ _
  case cnc => exact ite_eq_ite_not s.flags.cy _ _
  case cpo => exact ite_eq_ite_not s.flags.p _ _
  case cp => exact ite_eq_ite_not s.flags.s _ _
  all_goals rfl

/-- Only a form of the list of memory's writers stores a byte (R50, R62). -/
theorem formStores_eq_nil {f : Form} (h : storesToMemory f.kind = false) (s : State) : formStores f s = [] := by
  cases f
  case moveToMemory | moveImmediateToMemory | incrementMemory | decrementMemory | storeAccDirect | storeHLDirect
    | storeAccIndirect | push | pushPSW | exchangeStackTop | call | conditionalCall | restart => cases h
  all_goals rfl

theorem readByte_writeWord_eq_afterStores (s : State) (a v : Addr) :
    (s.writeWord a v).readByte = afterStores s.readByte [(a, loByte v), (a + 1, hiByte v)] := by
  rw [State.writeWord, readByte_writeByte_eq_setAt, readByte_writeByte_eq_setAt]; rfl

theorem pushedBytes_eq (s : State) (v : Addr) :
    pushedBytes s v = [(s.sp - 1, hiByte v), (s.sp - 2, loByte v)] := by
  rw [loByte_eq_ofNat]; rfl

theorem readByte_push16_eq_afterStores (s : State) (v : Addr) :
    (s.push16 v).readByte = afterStores s.readByte (pushedBytes s v) := readByte_push16_eq_pushed s v

/-- After a form every byte is what the form's stores, one after another, leave. -/
theorem readByte_run {f : Form} {s t : State} (h : f.run s = .next t) :
    t.readByte = afterStores s.readByte (formStores f s) := by
  cases f
  case conditionalJump => rcases conditionalJump_cases h with ⟨_, rfl⟩ | ⟨_, rfl⟩ <;> rfl
  case conditionalReturn => rcases conditionalReturn_cases h with ⟨_, rfl⟩ | ⟨_, rfl⟩ <;> rfl
  case conditionalCall =>
    rcases conditionalCall_cases h with ⟨hc, rfl⟩ | ⟨hc, rfl⟩ <;> rw [formStores, hc]
    · exact readByte_push16_eq_afterStores s _
    · rfl
  case call | restart => cases h; exact readByte_push16_eq_afterStores s _
  case push p =>
    cases h
    rw [formStores, ← getPair_eq_pairAddr]
    cases p <;> exact readByte_push16_eq_afterStores s _
  case pushPSW =>
    cases h
    have := readByte_push16_eq_afterStores s (word16 s.regs.a s.flags.pswByte)
    rwa [pushedBytes_eq, hiByte_word16, loByte_word16] at this
  case storeHLDirect a16 =>
    cases h
    have := readByte_writeWord_eq_afterStores s a16 s.hl
    rwa [State.hl, loByte_word16, hiByte_word16] at this
  case exchangeStackTop =>
    cases h
    have := readByte_writeWord_eq_afterStores s s.sp s.hl
    rwa [State.hl, loByte_word16, hiByte_word16] at this
  case incrementMemory => cases h; rw [inc8_val]; exact readByte_writeByte_eq_setAt s _ _
  case decrementMemory => cases h; rw [dec8_val]; exact readByte_writeByte_eq_setAt s _ _
  case storeAccIndirect p => cases h; rw [indAddr_eq_pairAddr]; exact readByte_writeByte_eq_setAt s _ _
  case moveToMemory | moveImmediateToMemory | storeAccDirect => cases h; exact readByte_writeByte_eq_setAt s _ _
  all_goals cases h; funext a; simp [formStores, afterStores]

/-! The flags a form reads. -/

/-- The flag a condition reads (R88). -/
def condFlag : Cond → FlagSet
  | .nz | .z => ⟨true, false, false, false, false⟩
  | .p | .m => ⟨false, true, false, false, false⟩
  | .po | .pe => ⟨false, false, true, false, false⟩
  | .nc | .c => ⟨false, false, false, true, false⟩

/-- The flags an ALU operation reads: the carry in of ADC and SBB (R36). -/
def aluFlagsRead : AluOp → FlagSet
  | .adc | .sbb => ⟨false, false, false, true, false⟩
  | _ => ⟨false, false, false, false, false⟩

/-- The flags a rotate reads: the carry that RAL and RAR rotate through (R36). -/
def rotateFlagsRead : RotateOp → FlagSet
  | .ral | .rar => ⟨false, false, false, true, false⟩
  | _ => ⟨false, false, false, false, false⟩

/-- What a form reads, as `flagsRead` says it of the instructions. -/
def formFlagsRead : Form → FlagSet
  | .conditionalJump cond _ | .conditionalCall cond _ | .conditionalReturn cond => condFlag cond
  | .aluRegister op _ | .aluMemory op | .aluImmediate op _ => aluFlagsRead op
  | .rotate op => rotateFlagsRead op
  | .complementCarry => ⟨false, false, false, true, false⟩
  | .decimalAdjust => ⟨false, false, false, true, true⟩
  | .pushPSW => ⟨true, true, true, true, true⟩
  | _ => ⟨false, false, false, false, false⟩

theorem flagsRead_eq_formFlagsRead (i : Instr) : flagsRead i = formFlagsRead (formOf i) := by
  cases i <;> rfl

theorem condHolds_congr {cond : Cond} {f g : Flags} (h : agreeOn (condFlag cond) f g) :
    condHolds cond f = condHolds cond g := by
  obtain ⟨hz, hs, hp, hcy, -⟩ := h
  cases cond with
  | nz | z => simp [condHolds, hz rfl]
  | nc | c => simp [condHolds, hcy rfl]
  | po | pe => simp [condHolds, hp rfl]
  | p | m => simp [condHolds, hs rfl]

/-- The ALU's five flags come from A, the operand and, in ADC and SBB, the carry in (R36, R140 to R142). -/
theorem aluApply_setFlags {op : AluOp} {s : State} {f : Flags} (h : agreeOn (aluFlagsRead op) f s.flags) (v : Byte) :
    aluApply op v (s.setFlags f) = aluApply op v s := by
  obtain ⟨-, -, -, hcy, -⟩ := h
  cases op with
  | adc => simp only [aluApply, State.setFlags_flags, hcy rfl]; rfl
  | sbb => simp only [aluApply, State.setFlags_flags, hcy rfl]; rfl
  | _ => rfl

theorem rotate8_congr {op : RotateOp} {f g : Flags} (h : agreeOn (rotateFlagsRead op) f g) (a : Byte) :
    rotate8 op a f.cy = rotate8 op a g.cy := by
  obtain ⟨-, -, -, hcy, -⟩ := h
  cases op with
  | rlc | rrc => rfl
  | ral | rar => rw [hcy rfl]

theorem daa8_congr {f g : Flags} (hcy : f.cy = g.cy) (hac : f.ac = g.ac) (a : Byte) : daa8 a f = daa8 a g := by
  simp only [daa8, hcy, hac]; rfl

theorem eq_of_agreeOn_all {f g : Flags} (h : agreeOn ⟨true, true, true, true, true⟩ f g) : f = g := by
  obtain ⟨hz, hs, hp, hcy, hac⟩ := h
  cases f; cases g
  simp_all

/-- Two sets of flags agree on the flags of an empty set. -/
theorem agreeOn_none (f g : Flags) : agreeOn ⟨false, false, false, false, false⟩ f g := by simp [agreeOn]

theorem agreeOn_refl (w : FlagSet) (f : Flags) : agreeOn w f f := by simp [agreeOn]

theorem agreeOn_cy {f g : Flags} (h : f.cy = g.cy) : agreeOn ⟨false, false, false, true, false⟩ f g := by
  simp [agreeOn, h]

theorem portWrite_setFlags (s : State) (f : Flags) (port v : Byte) :
    (s.setFlags f).portWrite port v = (s.portWrite port v).setFlags f := by
  obtain ⟨regs, flags, pc, sp, ie, run, mem, params, ⟨_ | answers, reads, writes, irq⟩⟩ := s
  · rfl
  · rfl

/-- With other flags `g` before it, a form leads to the same state but for the flags `g'`, and these agree on the flags
it writes (R36). -/
def ReadsOnlyListed (f : Form) (s : State) (g : Flags) : Prop :=
  ∃ t g', f.run s = .next t ∧ f.run (s.setFlags g) = .next (t.setFlags g') ∧ agreeOn (flagsWritten f.kind) g' t.flags

theorem readsOnlyListed_of_run_eq {f : Form} {s : State} {g : Flags} (h : f.run (s.setFlags g) = f.run s) :
    ReadsOnlyListed f s g := by
  obtain ⟨t, ht⟩ := Form.run_next f s
  exact ⟨t, t.flags, ht, h.trans ht, agreeOn_refl _ _⟩

theorem form_readsOnlyListed {f : Form} {s : State} {g : Flags} (h : agreeOn (formFlagsRead f) g s.flags) :
    ReadsOnlyListed f s g := by
  cases f
  case conditionalJump =>
    simp only [ReadsOnlyListed, Form.run, conditionalJump, State.setFlags_flags, condHolds_congr h]
    split <;> exact ⟨_, g, rfl, rfl, agreeOn_none _ _⟩
  case conditionalCall =>
    simp only [ReadsOnlyListed, Form.run, conditionalCall, State.setFlags_flags, condHolds_congr h]
    split <;> exact ⟨_, g, rfl, rfl, agreeOn_none _ _⟩
  case conditionalReturn =>
    simp only [ReadsOnlyListed, Form.run, conditionalReturn, State.setFlags_flags, condHolds_congr h]
    split <;> exact ⟨_, g, rfl, rfl, agreeOn_none _ _⟩
  case aluRegister | aluMemory =>
    exact readsOnlyListed_of_run_eq (congrArg (fun u => Host.Outcome.next (State.advance u 1)) (aluApply_setFlags h _))
  case aluImmediate =>
    exact readsOnlyListed_of_run_eq (congrArg (fun u => Host.Outcome.next (State.advance u 2)) (aluApply_setFlags h _))
  case decimalAdjust =>
    obtain ⟨-, -, -, hcy, hac⟩ := h
    exact readsOnlyListed_of_run_eq
      (congrArg (fun out : AluOut => Host.Outcome.next (((s.setReg .a out.val).setFlags out.flags).advance 1))
        (daa8_congr (hcy rfl) (hac rfl) s.regs.a))
  case pushPSW => rw [eq_of_agreeOn_all h]; exact readsOnlyListed_of_run_eq rfl
  case popPSW => exact readsOnlyListed_of_run_eq rfl
  case incrementRegister | incrementMemory | decrementRegister | decrementMemory =>
    exact ⟨_, _, rfl, rfl, fun _ => rfl, fun _ => rfl, fun _ => rfl, nofun, fun _ => rfl⟩
  case rotate op =>
    have hout := rotate8_congr h s.regs.a
    exact ⟨_, { g with cy := (rotate8 op s.regs.a g.cy).2 }, rfl, by rw [← hout]; rfl,
      agreeOn_cy (congrArg Prod.snd hout)⟩
  case complementCarry =>
    obtain ⟨-, -, -, hcy, -⟩ := h
    exact ⟨_, _, rfl, rfl, agreeOn_cy (congrArg not (hcy rfl))⟩
  case setCarry => exact ⟨_, _, rfl, rfl, agreeOn_cy rfl⟩
  case pairAdd p => cases p <;> exact ⟨_, _, rfl, rfl, agreeOn_cy rfl⟩
  case output d8 =>
    have hwrite := portWrite_setFlags s g d8 s.regs.a
    exact ⟨_, g, rfl, congrArg (fun u => Host.Outcome.next (State.advance u 2)) hwrite, agreeOn_none _ _⟩
  case loadPairImmediate p _ | pairIncrement p | pairDecrement p | pop p =>
    cases p <;> exact ⟨_, g, rfl, rfl, agreeOn_none _ _⟩
  all_goals exact ⟨_, g, rfl, rfl, agreeOn_none _ _⟩

/-! The statements. -/

theorem kind_eq_halt_iff (i : Instr) : i.kind = .halt ↔ i = .hlt := by
  refine ⟨fun h => ?_, fun h => h ▸ rfl⟩
  cases i
  case hlt => rfl
  all_goals cases h

theorem kind_eq_enableInterrupts_iff (i : Instr) : i.kind = .enableInterrupts ↔ i = .ei := by
  refine ⟨fun h => ?_, fun h => h ▸ rfl⟩
  cases i
  case ei => rfl
  all_goals cases h

theorem kind_eq_disableInterrupts_iff (i : Instr) : i.kind = .disableInterrupts ↔ i = .di := by
  refine ⟨fun h => ?_, fun h => h ▸ rfl⟩
  cases i
  case di => rfl
  all_goals cases h

/-- Settles O57: form by form, PC moves past the bytes of the form. -/
theorem pcAdvancesByTheLength : Obligations.PcAdvancesByTheLength := by
  intro i s t hk h
  rw [kind_eq] at hk
  rw [exec_eq_run] at h
  rw [operandLength_eq]
  exact Form.run_pc hk h

/-- Settles O55: form by form, the flags outside the table are not written. -/
theorem flagsOutsideTheTableAreKept : Obligations.FlagsOutsideTheTableAreKept := by
  intro i s t h
  rw [exec_eq_run] at h
  rw [kind_eq]
  exact Form.run_flags h

/-- Settles O56: form by form, a flag is read only where the list says so. -/
theorem onlyListedFlagsAreRead : Obligations.OnlyListedFlagsAreRead := by
  intro i s g h
  rw [flagsRead_eq_formFlagsRead] at h
  obtain ⟨t, g', ht, hu, hagree⟩ := form_readsOnlyListed h
  refine ⟨t, t.setFlags g', ?_, ?_, rfl, ?_⟩
  · rw [exec_eq_run]; exact ht
  · rw [exec_eq_run]; exact hu
  · rw [kind_eq]; exact hagree

/-- Settles O58: form by form, only EI and DI reach IE, only HLT reaches RUN, only IN the handler, only OUT the events. -/
theorem controlStateChangesOnlyAsListed : Obligations.ControlStateChangesOnlyAsListed := by
  intro i s t h
  rw [exec_eq_run] at h
  obtain ⟨hie, hrun, hirq, hin, hout⟩ := Form.run_control h
  simp only [← kind_eq, kind_eq_enableInterrupts_iff, kind_eq_disableInterrupts_iff] at hie hin hout
  simp only [← kind_eq, kind_eq_halt_iff] at hrun
  exact ⟨hie, hrun, Form.run_params h, hirq, hin, hout⟩

theorem not_writesPairSP {i : Instr} (hlxi : ∀ v, i ≠ .lxiSP v) (hinx : i ≠ .inxSP) (hdcx : i ≠ .dcxSP) :
    ¬ (formOf i).writesPairSP := by
  cases i
  case lxiSP v => exact absurd rfl (hlxi v)
  case inxSP => exact absurd rfl hinx
  case dcxSP => exact absurd rfl hdcx
  all_goals exact nofun

/-- After an instruction every byte is what its stores, one after another, leave. -/
theorem readByte_exec {i : Instr} {s t : State} (h : exec i s = .next t) :
    t.readByte = afterStores s.readByte (storedBytes i s) := by
  rw [exec_eq_run] at h
  rw [storedBytes_eq_formStores]
  exact readByte_run h

/-- Settles O59: the other forms leave SP, and store nothing. -/
theorem stackPointerAndMemoryWritersAreListed : Obligations.StackPointerAndMemoryWritersAreListed := by
  intro i s t h
  constructor
  · intro hk hlxi hinx hdcx
    rw [exec_eq_run] at h
    rw [kind_eq] at hk
    exact Form.run_sp hk (not_writesPairSP hlxi hinx hdcx) h
  · intro hk a
    rw [kind_eq] at hk
    rw [readByte_exec h, storedBytes_eq_formStores, formStores_eq_nil hk]
    rfl

end Sys2Proof.Claims
end

section
/-! SUPPORT. What a step does by run state, opcode and presentation; the invariant along a step and a run; and the statements
of 60_exceptions.md, 70_reset_and_hazards.md and 20_memory.md settled from them. -/

namespace Sys2Proof.Claims

open Sys2Proof.Machine

/-! The step when no request is taken. -/

theorem takesInterrupt_eq_false_iff (s : State) : s.takesInterrupt = false ↔ s.run ≠ .running ∨ s.ie = false := by
  rw [← Bool.not_eq_true, State.takesInterrupt_iff, Decidable.not_and_iff_or_not, Bool.not_eq_true]

/-- The presentation used up, as the statements write it (R236). -/
theorem setIrqInput_tail_eq (s : State) : s.setIrqInput s.env.irqInput.tail = { s with env := irqUsed s } := rfl

/-- A boundary at which no request is taken is `step()` with the presentation used up (R237, R239). -/
theorem step_of_noInterrupt {s : State} (h : noInterrupt s) : step s = cpuStep { s with env := irqUsed s } := by
  rw [← setIrqInput_tail_eq]
  obtain ⟨hirq, hstep⟩ | ⟨rest, hirq, hstep⟩ | ⟨target, rest, hirq, htakes, -⟩ | ⟨target, rest, hirq, -, hstep⟩ :=
    step_cases s
  · rw [hstep, hirq, List.tail_nil, ← hirq]; rfl
  · rw [hstep, hirq, List.tail_cons]
  · rw [(takesInterrupt_eq_false_iff s).2 (h target rest hirq)] at htakes; cases htakes
  · rw [hstep, hirq, List.tail_cons]

theorem noInterrupt_of_not_running {s : State} (h : s.run ≠ .running) : noInterrupt s := fun _ _ _ => .inl h

theorem cpuStep_of_halted {s : State} (h : s.run = .halted) : cpuStep s = .fault .invalidStepWhileHalted := by
  simp only [cpuStep, h]

theorem cpuStep_of_faulted {s : State} {r : FaultReason} (h : s.run = .faulted r) :
    cpuStep s = .fault .invalidStepWhileFaulted := by
  simp only [cpuStep, h]

/-- A step of a halted machine is an error, whatever is presented (R233). -/
theorem step_of_halted {s : State} (h : s.run = .halted) : step s = .fault .invalidStepWhileHalted := by
  rw [step_of_noInterrupt (noInterrupt_of_not_running (by simp [h]))]
  exact cpuStep_of_halted h

/-- A step of a faulted machine is an error, whatever is presented (R234). -/
theorem step_of_faulted {s : State} {r : FaultReason} (h : s.run = .faulted r) :
    step s = .fault .invalidStepWhileFaulted := by
  rw [step_of_noInterrupt (noInterrupt_of_not_running (by simp [h]))]
  exact cpuStep_of_faulted h

/-- A step of a running machine whose opcode is implemented runs the instruction at PC (R230). -/
theorem step_eq_exec {s : State} (hr : s.run = .running) (hn : noInterrupt s) (hm : s.opcode ∉ s.params.unimplSet) :
    step s = exec s.fetched { s with env := irqUsed s } := by
  rw [step_of_noInterrupt hn]
  exact cpuStep_exec hr hm

/-- A step of a running machine whose opcode is in UNIMPL_SET faults (R243). -/
theorem step_eq_raiseUnimplemented {s : State} (hr : s.run = .running) (hn : noInterrupt s)
    (hm : s.opcode ∈ s.params.unimplSet) :
    step s = .next (State.raiseUnimplemented { s with env := irqUsed s } s.opcode) := by
  rw [step_of_noInterrupt hn]
  exact cpuStep_unimplemented hr hm

/-! What `step()` returns (R232). -/

theorem stepResult_of_fault {s : State} {e : Fault} (h : cpuStep s = .fault e) : stepResult s = some (.error e) := by
  simp only [stepResult, h]

theorem stepResult_of_next {s t : State} (h : cpuStep s = .next t) :
    stepResult s = some (match t.run with
      | .running => .okRunning
      | .halted => .okHalted
      | .faulted r => .fault r) := by
  simp only [stepResult, h]
  cases t.run <;> rfl

/-- 0x76 is the one opcode of the kind Halt (R93, R94). -/
theorem kind_decodeOp_eq_halt_iff (op b2 b3 : Byte) : (decodeOp op b2 b3).kind = .halt ↔ op = 0x76 := by
  have table : ∀ op : Byte, (decodeOp op 0 0).kind = .halt ↔ op = 0x76 := by decide
  obtain ⟨-, -, hkind⟩ := sameOpcode_decodeOp op b2 b3 0 0
  rw [hkind, table]

/-- RUN after an instruction of a running machine (R40, R225). -/
theorem exec_run {i : Instr} {s t : State} (hr : s.run = .running) (h : exec i s = .next t) :
    t.run = if i.kind = .halt then .halted else .running := by
  rw [exec_eq_run] at h
  obtain ⟨-, hrun, -⟩ := Form.run_control h
  rw [hrun, hr, kind_eq]

theorem exec_next (i : Instr) (s : State) : ∃ t, exec i s = .next t := by
  rw [exec_eq_run]; exact Form.run_next _ _

theorem exec_params {i : Instr} {s t : State} (h : exec i s = .next t) : t.params = s.params := by
  rw [exec_eq_run] at h; exact Form.run_params h

theorem exec_wf {i : Instr} {s t : State} (h : exec i s = .next t)
    (hwf : Memory.wf s.params.resetMemoryByte s.mem = true) : Memory.wf t.params.resetMemoryByte t.mem = true := by
  rw [exec_eq_run] at h; exact Form.run_wf h hwf

/-! The invariant. -/

theorem faultIsPrecise_of_notFaulted {s : State} (h : s.notFaulted) : s.faultIsPrecise :=
  fun _ _ hr => absurd hr (h _)

/-- An instruction of a running machine does not fault. -/
theorem exec_notFaulted {i : Instr} {s t : State} (hr : s.run = .running) (h : exec i s = .next t) : t.notFaulted := by
  intro r
  rw [exec_run hr h]
  split <;> exact nofun

/-- The fault that a step raises names the opcode at PC, which is in UNIMPL_SET (R242, R243). -/
theorem raiseUnimplemented_faultIsPrecise {s : State} (hm : s.opcode ∈ s.params.unimplSet) :
    (s.raiseUnimplemented s.opcode).faultIsPrecise := by
  intro value address hrun
  cases hrun
  exact ⟨rfl, rfl, hm⟩

theorem cpuStep_keeps_inv {s t : State} (hs : s.Inv) (h : cpuStep s = .next t) : t.Inv := by
  obtain ⟨hwf, -⟩ := hs
  obtain ⟨hr, ⟨hm, rfl⟩ | ⟨-, hexec⟩⟩ := cpuStep_cases h
  · exact ⟨hwf, raiseUnimplemented_faultIsPrecise hm⟩
  · exact ⟨exec_wf hexec hwf, faultIsPrecise_of_notFaulted (exec_notFaulted hr hexec)⟩

theorem setIrqInput_keeps_inv {s : State} (hs : s.Inv) (rest : List (Option Addr)) : (s.setIrqInput rest).Inv := hs

/-- Taking an interrupt stores two bytes, which keeps the canonical form, and leaves the machine running (R238). -/
theorem acceptInterrupt_keeps_inv {s : State} (hs : s.Inv) (hr : s.run = .running) (target : Addr) :
    (s.acceptInterrupt target).Inv := by
  obtain ⟨hwf, -⟩ := hs
  have hrun : (s.acceptInterrupt target).run = .running := hr
  have hmem : Memory.wf s.params.resetMemoryByte (s.acceptInterrupt target).mem = true :=
    State.wf_enterAt s s.pc target hwf
  exact ⟨hmem, faultIsPrecise_of_notFaulted fun r hf => by rw [hrun] at hf; cases hf⟩

/-- Settles O52: `step()` and the acceptance of an interrupt each keep the invariant. -/
theorem stepKeepsTheInvariant : Obligations.StepKeepsTheInvariant := by
  intro s t hs h
  obtain ⟨-, hstep⟩ | ⟨rest, -, hstep⟩ | ⟨target, rest, -, htakes, hstep⟩ | ⟨target, rest, -, -, hstep⟩ := step_cases s
    <;> rw [hstep] at h
  · exact cpuStep_keeps_inv hs h
  · exact cpuStep_keeps_inv (setIrqInput_keeps_inv hs rest) h
  · cases h
    obtain ⟨hr, -⟩ := (State.takesInterrupt_iff s).1 htakes
    exact acceptInterrupt_keeps_inv (setIrqInput_keeps_inv hs rest) hr target
  · exact cpuStep_keeps_inv (setIrqInput_keeps_inv hs rest) h

/-- Settles O51: nothing is listed in memory and RUN is Running. -/
theorem resetMeetsTheInvariant : Obligations.ResetMeetsTheInvariant := by
  have reset_notFaulted : ∀ params env, (State.resetWith params env).notFaulted := fun _ _ _ => nofun
  have resetWith_inv : ∀ params env, (State.resetWith params env).Inv := fun params env =>
    ⟨State.resetWith_mem_wf params env, faultIsPrecise_of_notFaulted (reset_notFaulted params env)⟩
  exact ⟨resetWith_inv Params.initial Env.initial, resetWith_inv⟩

/-! Runs with no unimplemented opcode. -/

/-- RUN is not Faulted and no opcode is unimplemented: what a run keeps (R241, R96). -/
def Unfaultable (s : State) : Prop := s.notFaulted ∧ s.params.unimplSet = []

theorem cpuStep_unfaultable {s : State} (hr : s.run = .running) (hs : Unfaultable s) :
    ∃ t, cpuStep s = .next t ∧ Unfaultable t := by
  obtain ⟨-, hempty⟩ := hs
  obtain ⟨t, ht⟩ := exec_next s.fetched s
  refine ⟨t, (cpuStep_exec hr (by simp [hempty])).trans ht, exec_notFaulted hr ht, ?_⟩
  rw [exec_params ht, hempty]

/-- One step: it goes on, or the machine had halted. -/
theorem step_unfaultable {s : State} (hs : Unfaultable s) :
    (∃ t, step s = .next t ∧ Unfaultable t) ∨ step s = .fault .invalidStepWhileHalted := by
  cases hr : s.run with
  | halted => exact .inr (step_of_halted hr)
  | faulted r => exact absurd hr (hs.1 r)
  | running =>
    left
    obtain ⟨-, hstep⟩ | ⟨rest, -, hstep⟩ | ⟨target, rest, -, -, hstep⟩ | ⟨target, rest, -, -, hstep⟩ := step_cases s
      <;> rw [hstep]
    · exact cpuStep_unfaultable hr hs
    · exact cpuStep_unfaultable (s := s.setIrqInput rest) hr hs
    · exact ⟨_, rfl, hs⟩
    · exact cpuStep_unfaultable (s := s.setIrqInput rest) hr hs

/-- Settles O54: by induction on the number of steps, each of which goes on from such a state to such a state. -/
theorem runsOnlyEndByHalting : Obligations.RunsOnlyEndByHalting := by
  intro k
  induction k with
  | zero => intro s hs hempty; exact .inl ⟨s, rfl, hs, hempty⟩
  | succ k ih =>
    intro s hs hempty
    obtain ⟨t, ht, htn, hte⟩ | hhalt := step_unfaultable ⟨hs, hempty⟩
    · rw [run_next ht]; exact ih t htn hte
    · exact .inr (run_fault hhalt)

/-! The other statements about a step. -/

/-- Settles O43: three bytes hold the instruction that the step fetches. -/
theorem stepRunsTheDecodedInstruction : Obligations.StepRunsTheDecodedInstruction := by
  intro s i rest hr hn hm hdec
  obtain ⟨rest', hthree⟩ := decode_three (s.readByte s.pc) (s.readByte (s.pc + 1)) (s.readByte (s.pc + 2))
  rw [hthree] at hdec
  cases hdec
  exact step_eq_exec hr hn hm

/-- Settles O44: the step moves RUN alone, and RUN at Faulted is what is reported and what ends the next step. -/
theorem unimplementedOpcodeFaultsPrecisely : Obligations.UnimplementedOpcodeFaultsPrecisely := by
  intro s hr hn hm
  refine ⟨_, step_eq_raiseUnimplemented hr hn hm, rfl, ?_, step_of_faulted rfl⟩
  exact stepResult_of_next (cpuStep_unimplemented hr hm)

/-- Settles O45: RUN before the step, and for a running machine whether the opcode is that of HLT. -/
theorem stepResultsByRunState : Obligations.StepResultsByRunState := by
  intro s
  refine ⟨fun hr => ⟨step_of_halted hr, stepResult_of_fault (cpuStep_of_halted hr)⟩,
    fun r hr => ⟨step_of_faulted hr, stepResult_of_fault (cpuStep_of_faulted hr)⟩, fun hr hm => ?running⟩
  obtain ⟨t, ht⟩ := exec_next s.fetched s
  have hresult := stepResult_of_next ((cpuStep_exec hr hm).trans ht)
  have hrun := exec_run hr ht
  have hhalt : s.fetched.kind = .halt ↔ s.readByte s.pc = 0x76 := kind_decodeOp_eq_halt_iff _ _ _
  constructor
  · intro hop
    rw [if_pos (hhalt.2 hop)] at hrun
    rw [hresult, hrun]
  · intro hop
    rw [if_neg (mt hhalt.1 hop)] at hrun
    rw [hresult, hrun]

/-- Settles O47: the request is dropped at the boundary, and the entry `none` is dropped in the same way. -/
theorem interruptNotTakenIsLost : Obligations.InterruptNotTakenIsLost := by
  intro s target h
  have htakes := (takesInterrupt_eq_false_iff s).2 h
  constructor
  · rw [State.interrupt, htakes]; rfl
  · intro rest hirq
    have hlost : noInterrupt s := fun _ _ _ => h
    have hnone : noInterrupt { s with env := { s.env with irqInput := none :: rest } } := fun _ _ _ => h
    rw [step_of_noInterrupt hlost, step_of_noInterrupt hnone, irqUsed, hirq]
    rfl

/-- What taking an interrupt is seen to do (R238). -/
theorem seen_acceptInterrupt (s : State) (target : Addr) :
    seen (s.acceptInterrupt target) =
      { seen s with byte := pushed s s.pc, sp := s.sp - 2, pc := target, ie := false } := by
  have hpush := seen_push16 s s.pc
  calc seen (s.acceptInterrupt target)
      = { seen (s.push16 s.pc) with pc := target, ie := false } := rfl
    _ = _ := by rw [hpush]

/-- Settles O46: the host's operation and the step both accept the request, the step with the presentation used up. -/
theorem interruptPushesPcAndDisables : Obligations.InterruptPushesPcAndDisables := by
  intro s target hr hie
  have htakes : s.takesInterrupt = true := (State.takesInterrupt_iff s).2 ⟨hr, hie⟩
  constructor
  · rw [State.interrupt, htakes]; exact seen_acceptInterrupt s target
  · intro rest hirq
    have hstep : step s = .next ((s.setIrqInput rest).acceptInterrupt target) := by
      have htakes' : (s.setIrqInput rest).takesInterrupt = true := htakes
      simp only [step, boundaryStep, hirq, htakes', if_true]
    exact ⟨_, hstep, seen_acceptInterrupt (s.setIrqInput rest) target⟩

/-- Settles O48: reset builds the state from the parameters and the environment alone. -/
theorem resetLeavesTheZeroState : Obligations.ResetLeavesTheZeroState := by
  intro s
  refine ⟨?_, rfl⟩
  ext r
  case reg => cases r <;> rfl
  all_goals rfl

/-- Settles O50: after the stores every byte is what they left, and the next fetch reads it there. -/
theorem storeIsSeenByTheNextFetch : Obligations.StoreIsSeenByTheNextFetch := by
  intro i s t h byte
  have hbyte : t.readByte = byte := readByte_exec h
  have hopcode : t.opcode = byte t.pc := by rw [← hbyte]; rfl
  have hfetched : t.fetched = decodeOp (byte t.pc) (byte (t.pc + 1)) (byte (t.pc + 2)) := by rw [← hbyte]; rfl
  refine ⟨hbyte, hopcode, hfetched, fun hk => pcAdvancesByTheLength i s t hk h, fun hr hn hm => ?_⟩
  rw [← hfetched]
  exact step_eq_exec hr hn (hopcode ▸ hm)

end Sys2Proof.Claims
end

section
/-! SUPPORT. Memory as data: canonical memories are told apart by a read, and several bytes written are read back one by one;
and the statements of 20_memory.md settled from them. -/

namespace Sys2Proof.Machine

/-! Canonical memories. -/

theorem Memory.wfFrom_cons {fill : Byte} {lo k : Nat} {v : Byte} {rest : Memory} :
    Memory.wfFrom fill lo ((k, v) :: rest) = true ↔
      lo ≤ k ∧ k < Config.memorySize ∧ v ≠ fill ∧ Memory.wfFrom fill (k + 1) rest = true := by
  simp only [Memory.wfFrom, Bool.and_eq_true, decide_eq_true_eq, and_assoc]

/-- Below its first address a canonical memory holds RESET_MEMORY_BYTE. -/
theorem Memory.lookup_of_lt {fill : Byte} {m : Memory} {lo n : Nat} (h : Memory.wfFrom fill lo m = true) (hn : n < lo) :
    Memory.lookup fill m n = fill := by
  induction m generalizing lo with
  | nil => rfl
  | cons e rest ih =>
    obtain ⟨k, v⟩ := e
    obtain ⟨hlo, -, -, hrest⟩ := Memory.wfFrom_cons.1 h
    rw [Memory.lookup, if_neg (by omega)]
    exact ih hrest (by omega)

theorem Memory.lookup_cons_self (fill : Byte) (k : Nat) (v : Byte) (rest : Memory) :
    Memory.lookup fill ((k, v) :: rest) k = v := if_pos rfl

/-- Two memories read alike: at every address of the space they give the same byte. -/
def Memory.readAlike (fill : Byte) (m m' : Memory) : Prop :=
  ∀ n < Config.memorySize, Memory.lookup fill m n = Memory.lookup fill m' n

/-- The first entry of a canonical memory holds another byte than RESET_MEMORY_BYTE, so a memory that starts later does
not read alike. -/
theorem Memory.not_readAlike_of_later {fill v : Byte} {lo k : Nat} {rest m' : Memory}
    (h : Memory.wfFrom fill lo ((k, v) :: rest) = true) (h' : Memory.wfFrom fill (k + 1) m' = true) :
    ¬ Memory.readAlike fill ((k, v) :: rest) m' := by
  intro halike
  obtain ⟨-, hk, hv, -⟩ := Memory.wfFrom_cons.1 h
  have := halike k hk
  rw [Memory.lookup_cons_self, Memory.lookup_of_lt h' (Nat.lt_succ_self k)] at this
  exact hv this

theorem Memory.readAlike_symm {fill : Byte} {m m' : Memory} (h : Memory.readAlike fill m m') :
    Memory.readAlike fill m' m := fun n hn => (h n hn).symm

/-- Behind a common first entry canonical memories that read alike read alike. -/
theorem Memory.readAlike_tail {fill v : Byte} {k : Nat} {rest rest' : Memory}
    (h : Memory.wfFrom fill (k + 1) rest = true) (h' : Memory.wfFrom fill (k + 1) rest' = true)
    (halike : Memory.readAlike fill ((k, v) :: rest) ((k, v) :: rest')) : Memory.readAlike fill rest rest' := by
  intro n hn
  by_cases hk : n = k
  · rw [hk, Memory.lookup_of_lt h (Nat.lt_succ_self k), Memory.lookup_of_lt h' (Nat.lt_succ_self k)]
  · have := halike n hn
    rwa [Memory.lookup, Memory.lookup, if_neg hk, if_neg hk] at this

/-- Canonical memories that read alike are the same list: entry by entry, no first entry lies before the other. -/
theorem Memory.eq_of_readAlike {fill : Byte} {m m' : Memory} {lo : Nat} (h : Memory.wfFrom fill lo m = true)
    (h' : Memory.wfFrom fill lo m' = true) (halike : Memory.readAlike fill m m') : m = m' := by
  induction m generalizing lo m' with
  | nil =>
    cases m' with
    | nil => rfl
    | cons e rest => exact absurd (Memory.readAlike_symm halike) (Memory.not_readAlike_of_later h' rfl)
  | cons e rest ih =>
    obtain ⟨k, v⟩ := e
    obtain ⟨hlo, hk, hv, hrest⟩ := Memory.wfFrom_cons.1 h
    cases m' with
    | nil => exact absurd halike (Memory.not_readAlike_of_later h rfl)
    | cons e' rest' =>
      obtain ⟨k', v'⟩ := e'
      obtain ⟨hlo', hk', hv', hrest'⟩ := Memory.wfFrom_cons.1 h'
      obtain hlt | rfl | hgt := Nat.lt_trichotomy k k'
      · have later := Memory.wfFrom_cons.2 ⟨Nat.succ_le_of_lt hlt, hk', hv', hrest'⟩
        exact absurd halike (Memory.not_readAlike_of_later h later)
      · obtain rfl : v = v' := by
          have := halike k hk
          rwa [Memory.lookup_cons_self, Memory.lookup_cons_self] at this
        rw [ih hrest hrest' (Memory.readAlike_tail hrest hrest' halike)]
      · have later := Memory.wfFrom_cons.2 ⟨Nat.succ_le_of_lt hgt, hk, hv, hrest⟩
        exact absurd (Memory.readAlike_symm halike) (Memory.not_readAlike_of_later h' later)

theorem Memory.readAlike_of_read {fill : Byte} {m m' : Memory} (h : ∀ a, Memory.read fill m a = Memory.read fill m' a) :
    Memory.readAlike fill m m' := by
  intro n hn
  have haddr : (BitVec.ofNat 16 n).toNat = n := Nat.mod_eq_of_lt hn
  have := h (BitVec.ofNat 16 n)
  rwa [Memory.read, Memory.read, haddr] at this

/-! Several bytes. -/

/-- Bytes that fit are read back from where they were written, and no other byte changes (R57). -/
theorem Memory.read_writeBytes (fill : Byte) (m : Memory) (n : Nat) (bytes : List Byte) (a : Addr)
    (hfit : n + bytes.length ≤ 0x10000) :
    Memory.read fill (Memory.writeBytes fill m n bytes) a =
      if n ≤ a.toNat then (bytes[a.toNat - n]?).getD (Memory.read fill m a) else Memory.read fill m a := by
  induction bytes generalizing m n with
  | nil => simp [Memory.writeBytes]
  | cons v rest ih =>
    rw [List.length_cons] at hfit
    have haddr : a = BitVec.ofNat 16 n ↔ a.toNat = n := by
      rw [← BitVec.toNat_inj, BitVec.toNat_ofNat, Nat.mod_eq_of_lt (by omega)]
    rw [Memory.writeBytes, ih _ _ (by omega), Memory.read_write]
    obtain hlt | heq | hgt := Nat.lt_trichotomy a.toNat n
    · have hother : a ≠ BitVec.ofNat 16 n := mt haddr.1 (by omega)
      rw [if_neg (by omega), if_neg hother, if_neg (by omega)]
    · rw [if_neg (by omega), if_pos (haddr.2 heq), if_pos (by omega), heq, Nat.sub_self]; rfl
    · have hother : a ≠ BitVec.ofNat 16 n := mt haddr.1 (by omega)
      have hindex : a.toNat - n = (a.toNat - (n + 1)) + 1 := by omega
      rw [if_pos (by omega), if_neg hother, if_pos (by omega), hindex, List.getElem?_cons_succ]

end Sys2Proof.Machine

namespace Sys2Proof.Claims

open Sys2Proof.Machine

/-- Settles O53: a difference of canonical lists is seen at the smaller of their addresses there. -/
theorem canonicalMemoriesAreEqual : Obligations.CanonicalMemoriesAreEqual := by
  intro fill m m' h h' hread
  exact Memory.eq_of_readAlike h h' (Memory.readAlike_of_read hread)

/-- Settles O49: the bytes of a load that fits are read back, and a load that does not fit answers no state. -/
theorem loadWritesExactlyItsBytes : Obligations.LoadWritesExactlyItsBytes := by
  intro s seg
  obtain ⟨hfit, hload⟩ | ⟨hbig, hload⟩ := s.load_cases seg
  · refine ⟨fun _ => ⟨_, hload, ?_⟩, fun hbig => absurd hfit (Nat.not_le_of_lt hbig)⟩
    exact congrArg (fun byte => { seen s with byte := byte })
      (funext fun a => Memory.read_writeBytes s.params.resetMemoryByte s.mem seg.offset seg.bytes a hfit)
  · exact ⟨fun hfit => absurd hbig (Nat.not_lt_of_le hfit), fun _ => hload⟩

end Sys2Proof.Claims
end

section
/-! SUPPORT. The flag functions bit by bit; what each ALU function returns, in one equation over numbers; the bytes and the
meaning of the ALU families over their operand forms; and the statements of 42_alu.md settled from them. -/

namespace Sys2Proof.Claims

open Sys2Proof.Machine

/-! The flag functions (R30 to R32). -/

/-- `onesCount` counts the positions whose bit is set. -/
theorem onesCount_eq (width n : Nat) :
    onesCount width n = ((List.range width).filter fun k => n.testBit k).length := by
  induction width generalizing n with
  | zero => rfl
  | succ width ih =>
    have htail : ((List.range width).filter fun k => n.testBit (k + 1)).length = onesCount width (n / 2) := by
      simp only [ih, Nat.testBit_succ]
    have hshift : (fun k => n.testBit k) ∘ Nat.succ = fun k => n.testBit (k + 1) := rfl
    rw [onesCount, ← htail, List.range_succ_eq_map, List.filter_cons, List.filter_map, hshift, Nat.testBit_zero]
    obtain hbit | hbit := Nat.mod_two_eq_zero_or_one n
    · rw [hbit, if_neg (by decide), List.length_map, Nat.zero_add]
    · rw [hbit, if_pos (by decide), List.length_cons, List.length_map, Nat.add_comm]

theorem parityFlag_eq (result width : Nat) :
    parityFlag result width = decide (((List.range width).filter fun k => result.testBit k).length % 2 = 0) := by
  rw [parityFlag, onesCount_eq]

/-- A number is 0 modulo a power of two exactly when it has no bit below it. -/
theorem zeroFlag_iff (result width : Nat) : zeroFlag result width = true ↔ ∀ k < width, result.testBit k = false := by
  rw [zeroFlag, decide_eq_true_iff]
  constructor
  · intro hzero k hk
    have hbit := Nat.testBit_mod_two_pow result width k
    rw [hzero, Nat.zero_testBit, decide_eq_true hk, Bool.true_and] at hbit
    exact hbit.symm
  · intro hbits
    apply Nat.eq_of_testBit_eq
    intro k
    rw [Nat.testBit_mod_two_pow, Nat.zero_testBit]
    by_cases hk : k < width
    · rw [hbits k hk, Bool.and_false]
    · rw [decide_eq_false hk, Bool.false_and]

/-- Settles O20: a remainder, the top bit and a count, each read off the bits. -/
theorem flagFunctionsReadTheBits : Obligations.FlagFunctionsReadTheBits := by
  intro result width res
  refine ⟨zeroFlag_iff result width, ?_, ?_⟩
  · rw [signFlag_byte, decide_eq_true_iff]
  · rw [parityFlag_eq, decide_eq_true_iff]

/-! What each ALU function returns. -/

theorem parityFlag_byte (v : Byte) : parityFlag v.toNat 8 = evenOnes v := parityFlag_eq v.toNat 8

/-- Z, S and P of a result with a given CY and AC are the statements' five flags (R37). -/
theorem setZSP_eq_flagsOf (f : Flags) (res : Byte) (cy ac : Bool) :
    { f.setZSP res with cy := cy, ac := ac } = flagsOf res cy ac := by
  simp only [Flags.setZSP, flagsOf, zeroFlag_byte, signFlag_byte, parityFlag_byte]

theorem add8_eq (a b : Byte) (c : Bool) (f : Flags) :
    add8 a b c f =
      { val := BitVec.ofNat 8 (a.toNat + b.toNat + c.toNat)
        flags := flagsOf (BitVec.ofNat 8 (a.toNat + b.toNat + c.toNat)) (decide (256 ≤ a.toNat + b.toNat + c.toNat))
          (decide (16 ≤ a.toNat % 16 + b.toNat % 16 + c.toNat)) } := by
  rw [← carryFlagAdd_byte, ← auxCarryAdd_eq, ← setZSP_eq_flagsOf f]; rfl

theorem sub8_eq (a b : Byte) (c : Bool) (f : Flags) :
    sub8 a b c f =
      { val := BitVec.ofNat 8 (a.toNat + 512 - b.toNat - c.toNat)
        flags := flagsOf (BitVec.ofNat 8 (a.toNat + 512 - b.toNat - c.toNat)) (decide (a.toNat < b.toNat + c.toNat))
          (decide (b.toNat % 16 + c.toNat ≤ a.toNat % 16)) } := by
  rw [← difference_byte a b c.toNat c.toNat_le, ← auxCarrySub_eq a b c.toNat c.toNat_le, ← setZSP_eq_flagsOf f]; rfl

theorem and8_eq (a b : Byte) (f : Flags) :
    and8 a b f = { val := a &&& b, flags := flagsOf (a &&& b) false (a.getLsbD 3 || b.getLsbD 3) } := by
  rw [← setZSP_eq_flagsOf f]; rfl

theorem xor8_eq (a b : Byte) (f : Flags) : xor8 a b f = { val := a ^^^ b, flags := flagsOf (a ^^^ b) false false } := by
  rw [← setZSP_eq_flagsOf f]; rfl

theorem or8_eq (a b : Byte) (f : Flags) : or8 a b f = { val := a ||| b, flags := flagsOf (a ||| b) false false } := by
  rw [← setZSP_eq_flagsOf f]; rfl

/-- A carry leaves bit 3 of an increment exactly when the new low nibble is 0. -/
theorem auxCarryAdd_one (a : Byte) : auxCarryAdd a 1 0 = decide ((a + 1).toNat % 16 = 0) := by
  have := a.isLt
  rw [auxCarryAdd_eq, decide_eq_decide, BitVec.toNat_add]
  simp only [BitVec.ofNat_eq_ofNat, BitVec.toNat_ofNat]
  omega

/-- A decrement borrows from bit 4 exactly when the old low nibble is 0. -/
theorem auxCarrySub_one (a : Byte) : auxCarrySub a 1 0 = decide (a.toNat % 16 ≠ 0) := by
  rw [auxCarrySub_eq a 1 0 (Nat.zero_le 1), decide_eq_decide]
  simp only [BitVec.ofNat_eq_ofNat, BitVec.toNat_ofNat]
  omega

theorem inc8_eq (a : Byte) (f : Flags) :
    inc8 a f = { val := a + 1, flags := flagsOf (a + 1) f.cy (decide ((a + 1).toNat % 16 = 0)) } := by
  rw [← auxCarryAdd_one, ← setZSP_eq_flagsOf f, ← inc8_val a f]; rfl

theorem dec8_eq (a : Byte) (f : Flags) :
    dec8 a f = { val := a - 1, flags := flagsOf (a - 1) f.cy (decide (a.toNat % 16 ≠ 0)) } := by
  rw [← auxCarrySub_one, ← setZSP_eq_flagsOf f, ← dec8_val a f]; rfl

/-! The operand forms (R143). -/

theorem encode_aluForm (form : AluForm) (op : AluOp) : encode (form.instr op) = form.bytes op := by
  cases form with
  | reg r => cases op <;> cases r <;> rfl
  | mem => cases op <;> rfl
  | imm d8 => cases op <;> rfl

/-- Each form applies the operation to its operand and moves PC past its bytes. -/
theorem exec_aluForm (form : AluForm) (op : AluOp) (s : State) :
    exec (form.instr op) s = .next ((aluApply op (form.value s) s).setPc (s.pc + form.length)) := by
  cases form with
  | reg r => cases op <;> cases r <;> rfl
  | mem => cases op <;> rfl
  | imm d8 => cases op <;> rfl

theorem seen_setPc (s : State) (v : Addr) : seen (s.setPc v) = { seen s with pc := v } := rfl

/-- What an ALU instruction is observed to do when its operation writes A and the flags. -/
theorem observed_of_aluForm {form : AluForm} {op : AluOp} {s : State} {out : AluOut}
    (h : aluApply op (form.value s) s = (s.setReg .a out.val).setFlags out.flags) :
    ∃ t, exec (form.instr op) s = .next t ∧
      seen t = { seen s with reg := setAt s.regs.get .a out.val, flags := out.flags, pc := s.pc + form.length } :=
  ⟨_, exec_aluForm form op s, by rw [h, seen_setPc, seen_setFlags, seen_setReg]⟩

theorem ite_eq_toNat (b : Bool) : (if b then 1 else 0) = b.toNat := by cases b <;> rfl

theorem aluApply_addition (withCarry : Bool) (v : Byte) (s : State) :
    aluApply (if withCarry then .adc else .add) v s =
      (s.setReg .a (add8 s.regs.a v (withCarry && s.flags.cy) s.flags).val).setFlags
        (add8 s.regs.a v (withCarry && s.flags.cy) s.flags).flags := by
  cases withCarry <;> rfl

theorem aluApply_subtraction (withBorrow : Bool) (v : Byte) (s : State) :
    aluApply (if withBorrow then .sbb else .sub) v s =
      (s.setReg .a (sub8 s.regs.a v (withBorrow && s.flags.cy) s.flags).val).setFlags
        (sub8 s.regs.a v (withBorrow && s.flags.cy) s.flags).flags := by
  cases withBorrow <;> rfl

/-- Settles O10: ADD is ADC with carry-in 0. -/
theorem additionResultAndFlags : Obligations.AdditionResultAndFlags := by
  intro s form withCarry
  refine ⟨encode_aluForm form _, ?_⟩
  rw [ite_eq_toNat]
  have h := aluApply_addition withCarry (form.value s) s
  rw [add8_eq] at h
  exact observed_of_aluForm h

/-- Settles O11: SUB is SBB with borrow-in 0. -/
theorem subtractionResultAndFlags : Obligations.SubtractionResultAndFlags := by
  intro s form withBorrow
  refine ⟨encode_aluForm form _, ?_⟩
  rw [ite_eq_toNat]
  have h := aluApply_subtraction withBorrow (form.value s) s
  rw [sub8_eq] at h
  exact observed_of_aluForm h

/-- Settles O12: the flags are those of SUB, and A is not written. -/
theorem compareWritesFlagsOnly : Obligations.CompareWritesFlagsOnly := by
  intro s form
  have hcmp : aluApply .cmp (form.value s) s = s.setFlags (sub8 s.regs.a (form.value s) false s.flags).flags := rfl
  rw [sub8_eq] at hcmp
  refine ⟨encode_aluForm form .cmp, _, exec_aluForm form .cmp s, ?_⟩
  rw [hcmp]; rfl

/-- Settles O13: each operation on the bits, with CY 0 and its AC. -/
theorem logicalResultAndFlags : Obligations.LogicalResultAndFlags := by
  intro s form a v op res ac hmem
  refine ⟨encode_aluForm form op, ?_⟩
  simp only [List.mem_cons, Prod.mk.injEq, List.not_mem_nil, or_false] at hmem
  obtain ⟨rfl, rfl, rfl⟩ | ⟨rfl, rfl, rfl⟩ | ⟨rfl, rfl, rfl⟩ := hmem
  · exact observed_of_aluForm (out := ⟨_, _⟩) (and8_eq a v s.flags ▸ rfl)
  · exact observed_of_aluForm (out := ⟨_, _⟩) (xor8_eq a v s.flags ▸ rfl)
  · exact observed_of_aluForm (out := ⟨_, _⟩) (or8_eq a v s.flags ▸ rfl)

/-! INR and DCR. -/

theorem encode_inrReg (r : Reg) : encode (Instr.inrReg r) = [BitVec.ofNat 8 (0x04 + 8 * r.code)] := by
  cases r <;> rfl

theorem encode_dcrReg (r : Reg) : encode (Instr.dcrReg r) = [BitVec.ofNat 8 (0x05 + 8 * r.code)] := by
  cases r <;> rfl

theorem exec_inrReg (s : State) (r : Reg) : exec (Instr.inrReg r) s = incrementRegister r s := by
  cases r <;> rfl

theorem exec_dcrReg (s : State) (r : Reg) : exec (Instr.dcrReg r) s = decrementRegister r s := by
  cases r <;> rfl

/-- What an instruction of the shape `MemWrite(a, 1, v); flags <- f; next(n)` is observed to do. -/
theorem observed_of_writeByte_setFlags_advance {i : Instr} {s : State} {a : Addr} {v : Byte} {f : Flags} {n : Nat}
    (h : exec i s = .next (((s.writeByte a v).setFlags f).advance n)) :
    ∃ t, exec i s = .next t ∧
      seen t = { seen s with byte := setAt s.readByte a v, flags := f, pc := s.pc + BitVec.ofNat 16 n } :=
  ⟨_, h, by rw [seen_advance, seen_setFlags, seen_writeByte, State.setFlags_pc, State.writeByte_pc]⟩

/-- Settles O14: the carry out of bit 3 is read off the new low nibble. -/
theorem incrementResultAndFlags : Obligations.IncrementResultAndFlags := by
  intro s r
  constructor
  · refine ⟨encode_inrReg r, observed_of_setReg_setFlags_advance ?_⟩
    rw [exec_inrReg, incrementRegister, inc8_eq]
  · refine ⟨rfl, observed_of_writeByte_setFlags_advance ?_⟩
    have hinrM : exec .inrM s = incrementMemory s := rfl
    rw [hinrM, incrementMemory, inc8_eq]; rfl

/-- Settles O15: the borrow from bit 4 is read off the old low nibble. -/
theorem decrementResultAndFlags : Obligations.DecrementResultAndFlags := by
  intro s r
  constructor
  · refine ⟨encode_dcrReg r, observed_of_setReg_setFlags_advance ?_⟩
    rw [exec_dcrReg, decrementRegister, dec8_eq]
  · refine ⟨rfl, observed_of_writeByte_setFlags_advance ?_⟩
    have hdcrM : exec .dcrM s = decrementMemory s := rfl
    rw [hdcrM, decrementMemory, dec8_eq]; rfl

/-! DAA. -/

/-- The low digit is corrected. -/
def daaLow (a : Byte) (f : Flags) : Bool := f.ac || decide (9 < a.toNat % 16)

/-- The high digit is corrected, as A and CY alone say it. -/
def daaHigh (a : Byte) (f : Flags) : Bool := f.cy || decide (0x99 < a.toNat)

/-- The corrected number before it is cut to 8 bits. -/
def daaSum (a : Byte) (f : Flags) : Nat := a.toNat + 6 * (daaLow a f).toNat + 96 * (daaHigh a f).toNat

/-- A is above 0x99 exactly when its high digit is above 9, or is 9 with a low digit above 9 (R174). -/
theorem daaHigh_eq (a : Byte) (f : Flags) :
    (f.cy || decide (9 < highNibble a) || (decide (9 ≤ highNibble a) && decide (9 < lowNibble a))) = daaHigh a f := by
  have digits : (9 < a.toNat / 16 ∨ 9 ≤ a.toNat / 16 ∧ 9 < a.toNat % 16) ↔ 0x99 < a.toNat := by omega
  rw [daaHigh, highNibble, lowNibble, Bool.or_assoc, ← Bool.decide_and, ← Bool.decide_or, decide_eq_decide.2 digits]

theorem daa8_eq (a : Byte) (f : Flags) :
    daa8 a f =
      { val := BitVec.ofNat 8 (daaSum a f)
        flags := flagsOf (BitVec.ofNat 8 (daaSum a f)) (daaHigh a f)
          (decide (16 ≤ a.toNat % 16 + 6 * (daaLow a f).toNat)) } := by
  have hcy : (f.cy || daaHigh a f) = daaHigh a f := by rw [daaHigh, ← Bool.or_assoc, Bool.or_self]
  have hsum : a.toNat + ((if daaLow a f then 0x06 else 0) + (if daaHigh a f then 0x60 else 0)) = daaSum a f := by
    rw [daaSum]
    cases daaLow a f <;> cases daaHigh a f <;> rfl
  have hac : decide (0xF < lowNibble a + ((if daaLow a f then 0x06 else 0) + (if daaHigh a f then 0x60 else 0)) % 16) =
      decide (16 ≤ a.toNat % 16 + 6 * (daaLow a f).toNat) := by
    rw [lowNibble]
    cases daaLow a f <;> cases daaHigh a f <;> rfl
  have hlow : (f.ac || decide (9 < lowNibble a)) = daaLow a f := rfl
  rw [← hac, ← hsum, ← setZSP_eq_flagsOf f]
  simp only [daa8, daaHigh_eq, hlow, hcy]

theorem exec_daa (s : State) :
    exec .daa s = .next (((s.setReg .a (daa8 (s.regs.get .a) s.flags).val).setFlags
      (daa8 (s.regs.get .a) s.flags).flags).advance 1) := rfl

/-- Settles O16: the high digit's condition in one comparison, and AC from the low correction alone. -/
theorem decimalAdjustResultAndFlags : Obligations.DecimalAdjustResultAndFlags := by
  intro s
  have h := exec_daa s
  rw [daa8_eq] at h
  exact ⟨rfl, observed_of_setReg_setFlags_advance h⟩

/-! The decimal sum. -/

theorem bcd_toNat {n : Nat} (h : n < 100) : (bcd n).toNat = n / 10 * 16 + n % 10 := by
  rw [bcd, BitVec.toNat_ofNat]
  omega

/-- The sum of two packed BCD numbers as binary numbers. -/
def bcdSum (x y c : Nat) : Nat := x / 10 * 16 + x % 10 + (y / 10 * 16 + y % 10) + c

/-- The low digit is corrected exactly when the low decimal digits carry. -/
theorem bcdSum_low {x y c : Nat} (hc : c ≤ 1) :
    (16 ≤ (x / 10 * 16 + x % 10) % 16 + (y / 10 * 16 + y % 10) % 16 + c ∨ 9 < bcdSum x y c % 256 % 16) ↔
      10 ≤ x % 10 + y % 10 + c := by
  simp only [bcdSum]
  omega

/-- The high digit is corrected exactly when the decimal sum passes 99. -/
theorem bcdSum_high {x y c : Nat} (hc : c ≤ 1) :
    (256 ≤ bcdSum x y c ∨ 0x99 < bcdSum x y c % 256) ↔ 100 ≤ x + y + c := by
  have carried : ∀ n, (256 ≤ n ∨ 0x99 < n % 256) ↔ 0x99 < n := by omega
  rw [carried, bcdSum]
  obtain hdigits | hdigits := Nat.lt_or_ge (x / 10 + y / 10) 10
  · omega
  · omega

/-- The corrections 6 and 96 turn the binary sum into the decimal one. -/
theorem bcdSum_corrected {x y c : Nat} (hx : x < 100) (hy : y < 100) (hc : c ≤ 1) :
    (bcdSum x y c % 256 + 6 * (decide (10 ≤ x % 10 + y % 10 + c)).toNat +
      96 * (decide (100 ≤ x + y + c)).toNat) % 256 = (x + y + c) % 100 / 10 * 16 + (x + y + c) % 100 % 10 := by
  simp only [bcdSum]
  by_cases hlow : 10 ≤ x % 10 + y % 10 + c <;> by_cases hhigh : 100 ≤ x + y + c <;>
    simp only [hlow, hhigh, decide_true, decide_false, Bool.toNat_true, Bool.toNat_false] <;> omega

/-- DAA after the addition of two packed BCD numbers. -/
theorem daa8_add8_bcd {x y : Nat} (hx : x < 100) (hy : y < 100) (c : Bool) (f : Flags) :
    let out := add8 (bcd x) (bcd y) c f
    (daa8 out.val out.flags).val = bcd ((x + y + c.toNat) % 100) ∧
      (daa8 out.val out.flags).flags.cy = decide (100 ≤ x + y + c.toNat) := by
  intro out
  have hout : out.val.toNat = bcdSum x y c.toNat % 256 := by
    simp only [out, add8_eq, BitVec.toNat_ofNat, bcd_toNat hx, bcd_toNat hy, bcdSum]
  have hlow : daaLow out.val out.flags = decide (10 ≤ x % 10 + y % 10 + c.toNat) := by
    rw [daaLow, hout, Bool.eq_iff_iff, Bool.or_eq_true, decide_eq_true_iff, decide_eq_true_iff, ← bcdSum_low c.toNat_le]
    simp only [out, add8_eq, flagsOf, bcd_toNat hx, bcd_toNat hy, decide_eq_true_iff]
  have hhigh : daaHigh out.val out.flags = decide (100 ≤ x + y + c.toNat) := by
    rw [daaHigh, hout, Bool.eq_iff_iff, Bool.or_eq_true, decide_eq_true_iff, decide_eq_true_iff, ← bcdSum_high c.toNat_le]
    simp only [out, add8_eq, flagsOf, bcd_toNat hx, bcd_toNat hy, bcdSum, decide_eq_true_iff]
  rw [daa8_eq]
  refine ⟨BitVec.eq_of_toNat_eq ?_, hhigh⟩
  rw [BitVec.toNat_ofNat, daaSum, hlow, hhigh, hout, bcd_toNat (Nat.mod_lt _ (by omega))]
  exact bcdSum_corrected hx hy c.toNat_le

/-- ACI leaves the sum with the carry in, and its five flags (R149). -/
theorem exec_aci (s : State) (d8 : Byte) :
    exec (.aci d8) s =
      .next (((s.setReg .a (add8 (s.regs.get .a) d8 s.flags.cy s.flags).val).setFlags
        (add8 (s.regs.get .a) d8 s.flags.cy s.flags).flags).advance 2) := rfl

/-- Settles O17: ACI leaves the binary sum and its two carries, from which DAA makes the decimal sum. -/
theorem addThenDecimalAdjustIsDecimalSum : Obligations.AddThenDecimalAdjustIsDecimalSum := by
  intro s x y hx hy ha sum
  have hsum : sum = x + y + s.flags.cy.toNat := by rw [← ite_eq_toNat]
  have hadd := exec_aci s (bcd y)
  obtain ⟨hval, hcy⟩ := daa8_add8_bcd hx hy s.flags.cy s.flags
  rw [ha] at hadd
  rw [hsum]
  exact ⟨_, _, hadd, rfl, hval, hcy⟩

/-! The complement. -/

theorem xor_ones (b : Byte) : b ^^^ 0xFF = ~~~b := BitVec.xor_allOnes

theorem xor_ones_toNat (b : Byte) : (b ^^^ 0xFF).toNat = 255 - b.toNat := by
  rw [xor_ones, BitVec.toNat_not]

/-- Settles O19: with the complement 255 - b in place of -b, bit 8 of the sum is the absence of a borrow. -/
theorem subtractionIsComplementAddition : Obligations.SubtractionIsComplementAddition := by
  intro a b borrow f t
  have ha := a.isLt
  have hb := b.isLt
  have hc := borrow.toNat_le
  have ht : t = a.toNat + (255 - b.toNat) + (1 - borrow.toNat) := by rw [← xor_ones_toNat]
  rw [sub8_eq]
  refine ⟨?val, ?cy, ?ac⟩
  case val =>
    apply BitVec.eq_of_toNat_eq
    simp only [BitVec.toNat_ofNat, ht]
    omega
  case cy =>
    rw [Nat.testBit_eq_decide_div_mod_eq, ← decide_not, ht]
    simp only [flagsOf, decide_eq_decide]
    omega
  case ac =>
    rw [xor_ones_toNat]
    simp only [flagsOf, decide_eq_decide]
    omega

/-- Settles O18: CMA writes A alone, STC and CMC the flag CY alone. -/
theorem complementAndCarryInstructions : Obligations.ComplementAndCarryInstructions := by
  intro s
  refine ⟨?cma, ?stc, ?cmc⟩
  case cma =>
    have hcma : exec .cma s = .next ((s.setReg .a (~~~(s.regs.get .a))).advance 1) := by rw [← xor_ones]; rfl
    exact ⟨rfl, observed_of_setReg_advance hcma⟩
  case stc => exact ⟨rfl, _, rfl, rfl⟩
  case cmc => exact ⟨rfl, _, rfl, rfl⟩

end Sys2Proof.Claims
end

section
/-! SUPPORT. What is observed after the word loads and exchanges, the stack with the status word, the transfers of control and
the ports; and the remaining statements of 40_data_transfer.md and 43_stack.md to 46_io_interrupt_restart_halt.md settled. -/

namespace Sys2Proof.Claims

open Sys2Proof.Machine

/-! Data transfer. -/

/-- Settles O1: the eight opcodes are 00nnn000, and `nnn` is not read. -/
theorem nopOnlyAdvancesPc : Obligations.NopOnlyAdvancesPc := by
  intro s nnn
  exact ⟨congrArg (fun n => [BitVec.ofNat 8 n]) (Nat.zero_add _), _, rfl, rfl⟩

theorem encode_lxiPair (p : Pair) (d16 : Addr) :
    encode (Instr.lxiPair p d16) =
      [BitVec.ofNat 8 (0x01 + 16 * p.code), BitVec.ofNat 8 d16.toNat, BitVec.ofNat 8 (d16.toNat / 256)] := by
  rw [← loByte_eq_ofNat]; cases p <;> rfl

theorem exec_lxiPair (s : State) (p : Pair) (d16 : Addr) :
    exec (Instr.lxiPair p d16) s = .next ((s.setPair p d16).advance 3) := by
  cases p <;> rfl

/-- Settles O3: one write of a pair, which is SP for code 11. -/
theorem loadPairImmediateFillsPair : Obligations.LoadPairImmediateFillsPair := by
  intro s p d16
  exact ⟨encode_lxiPair p d16, observed_of_setPair_advance (exec_lxiPair s p d16)⟩

/-- Two bytes put into two registers as one word (R22). -/
theorem setRegs2_word16 (reg : Reg → Byte) (hi lo : Reg) (h l : Byte) :
    setRegs2 reg hi lo (word16 h l) = setAt (setAt reg hi h) lo l := by
  have hhi : BitVec.ofNat 8 ((word16 h l).toNat / 256) = h := hiByte_word16 h l
  rw [setRegs2, hhi, ← loByte_eq_ofNat, loByte_word16]

/-- Changes at two different arguments commute. -/
theorem setAt_comm {α β : Type} [DecidableEq α] (f : α → β) {k k' : α} (hk : k ≠ k') (v v' : β) :
    setAt (setAt f k v) k' v' = setAt (setAt f k' v') k v := by
  funext x
  by_cases hx : x = k
  · subst hx; simp [setAt, hk]
  · simp [setAt, hx]

/-- HL written with two bytes is seen in L and H alone. -/
theorem seen_setHl_word16 (s : State) (h l : Byte) :
    seen (s.setHl (word16 h l)) = { seen s with reg := setAt (setAt s.regs.get .l l) .h h } := by
  rw [setAt_comm _ (by decide), ← setRegs2_word16]
  exact seen_setTwo s .h .l _

/-- HL stored as a word is L at the address and H after it (R55). -/
theorem seen_writeWord_hl (s : State) (a : Addr) :
    seen (s.writeWord a s.hl) =
      { seen s with byte := setAt (setAt s.readByte a (s.regs.get .l)) (a + 1) (s.regs.get .h) } := by
  have hbyte := readByte_writeWord_eq_afterStores s a s.hl
  rw [State.hl, hiByte_word16, loByte_word16] at hbyte
  exact congrArg (fun byte => { seen s with byte := byte }) hbyte

theorem exec_lhld (s : State) (a16 : Addr) :
    exec (.lhld a16) s = .next ((s.setHl (word16 (s.readByte (a16 + 1)) (s.readByte a16))).advance 3) := rfl

/-- Settles O7: the word at the address, its low byte first, to and from L and H. -/
theorem hlLoadsAndStoresDirect : Obligations.HLLoadsAndStoresDirect := by
  intro s a16
  rw [← loByte_eq_ofNat]
  constructor
  · refine ⟨rfl, _, exec_lhld s a16, ?_⟩
    rw [seen_advance, seen_setHl_word16]; rfl
  · refine ⟨rfl, (s.writeWord a16 s.hl).advance 3, rfl, ?_⟩
    rw [seen_advance, seen_writeWord_hl]; rfl

/-! Rotate and exchange. -/

/-- The bit shifted out on the left is the bit 0 that enters. -/
theorem rotateLeft_one (a : Byte) : a.rotateLeft 1 = (a <<< 1) ||| (if a.getLsbD 7 then 0x01 else 0x00) := by
  have top : ∀ a : Byte, a >>> 7 = if a.getLsbD 7 then 0x01 else 0x00 := by decide
  rw [← top]; rfl

/-- The bit shifted out on the right is the bit 7 that enters. -/
theorem rotateRight_one (a : Byte) : a.rotateRight 1 = (a >>> 1) ||| (if a.getLsbD 0 then 0x80 else 0x00) := by
  have bottom : ∀ a : Byte, a <<< 7 = if a.getLsbD 0 then 0x80 else 0x00 := by decide
  rw [← bottom]; rfl

/-- Settles O32: the rotates through CY with the bit shifted out in the place of CY. -/
theorem rotatesOfTheAccumulator : Obligations.RotatesOfTheAccumulator := by
  intro s
  constructor
  · rw [rotateLeft_one, ← ofNat_double_add_carry]
    exact ⟨rfl, observed_of_setReg_setFlags_advance (exec_rotate s .rlc)⟩
  · rw [rotateRight_one, ← ofNat_half_add_carry]
    exact ⟨rfl, observed_of_setReg_setFlags_advance (exec_rotate s .rrc)⟩

/-- Settles O33: HL takes the old DE, then DE the old HL. -/
theorem exchangeSwapsHLAndDE : Obligations.ExchangeSwapsHLAndDE := by
  intro s
  have hxchg : exec .xchg s = .next (((s.setTwo .h .l s.de).setTwo .d .e s.hl).advance 1) := rfl
  refine ⟨rfl, _, hxchg, ?_⟩
  rw [seen_advance, seen_setTwo, get_setTwo_eq_setRegs2, seen_setTwo, State.de, State.hl, setRegs2_word16,
    setRegs2_word16]
  rfl

theorem exec_xthl (s : State) :
    exec .xthl s =
      .next (((s.writeWord s.sp s.hl).setHl (word16 (s.readByte (s.sp + 1)) (s.readByte s.sp))).advance 1) := rfl

/-- Settles O34: the word on top of the stack is read before HL is stored there. -/
theorem exchangeStackTopSwapsHL : Obligations.ExchangeStackTopSwapsHL := by
  intro s
  refine ⟨rfl, _, exec_xthl s, ?_⟩
  rw [seen_advance, seen_setHl_word16, seen_writeWord_hl]
  rfl

/-! The status word (R38). -/

theorem pswByte_bits (f : Flags) :
    f.pswByte.getLsbD 7 = f.s ∧ f.pswByte.getLsbD 6 = f.z ∧ f.pswByte.getLsbD 5 = false ∧ f.pswByte.getLsbD 4 = f.ac ∧
      f.pswByte.getLsbD 3 = false ∧ f.pswByte.getLsbD 2 = f.p ∧ f.pswByte.getLsbD 1 = true ∧
      f.pswByte.getLsbD 0 = f.cy := by
  obtain ⟨z, s, p, cy, ac⟩ := f
  revert z s p cy ac
  decide

/-- A push of A over the status byte is seen in the two bytes below SP and in SP (R184). -/
theorem pushed_word16 (s : State) (h l : Byte) :
    pushed s (word16 h l) = setAt (setAt s.readByte (s.sp - 1) h) (s.sp - 2) l := by
  have hbytes := pushedBytes_eq s (word16 h l)
  rw [hiByte_word16, loByte_word16] at hbytes
  exact congrArg (afterStores s.readByte) hbytes

theorem exec_pushPSW (s : State) :
    exec .pushPSW s = .next ((s.push16 (word16 (s.regs.get .a) s.flags.pswByte)).advance 1) := rfl

theorem exec_popPSW (s : State) :
    exec .popPSW s =
      .next (((s.dropTop.setReg .a (hiByte s.stackTop)).setFlags (Flags.ofPswByte (loByte s.stackTop))).advance 1) := rfl

/-- Settles O23: the status byte bit by bit, below A; and A and the flags from the two bytes on top of the stack. -/
theorem pushAndPopOfStatusWord : Obligations.PushAndPopOfStatusWord := by
  intro s
  constructor
  · obtain ⟨h7, h6, h5, h4, h3, h2, h1, h0⟩ := pswByte_bits s.flags
    refine ⟨rfl, _, exec_pushPSW s, s.flags.pswByte, h7, h6, h5, h4, h3, h2, h1, h0, ?_⟩
    rw [seen_advance, seen_push16, pushed_word16]; rfl
  · refine ⟨rfl, _, exec_popPSW s, ?_⟩
    rw [seen_advance, seen_setFlags, seen_setReg, State.stackTop, hiByte_word16, loByte_word16]; rfl

/-- The five flag bits are kept and the three fixed bits are set (R38). -/
theorem pswByte_ofPswByte : ∀ f : Byte, (Flags.ofPswByte f).pswByte = (f &&& 0xD5) ||| 0x02 := by decide

/-- A pop of a word made of A and a status byte restores both (R185). -/
theorem exec_popPSW_of_stackTop {t : State} {a : Byte} {f : Flags} (h : t.stackTop = word16 a f.pswByte) :
    exec .popPSW t = .next (((t.dropTop.setReg .a a).setFlags f).advance 1) := by
  rw [exec_popPSW, h, hiByte_word16, loByte_word16, Flags.ofPswByte_pswByte]

theorem regs_set_a_get_a (g : Regs) : g.set .a (g.get .a) = g := rfl

/-- Settles O24: the pop reads back the word of the push, and the flags are read back from their byte. -/
theorem statusWordRoundTrips : Obligations.StatusWordRoundTrips := by
  refine ⟨pswByte_ofPswByte, fun s t u hpush hpop => ?_⟩
  rw [exec_pushPSW] at hpush
  cases hpush
  have htop : ((s.push16 (word16 (s.regs.get .a) s.flags.pswByte)).advance 1).stackTop =
      word16 (s.regs.get .a) s.flags.pswByte := stackTop_push16 s _
  rw [exec_popPSW_of_stackTop htop] at hpop
  cases hpop
  refine ⟨?regs, ?flags, ?sp⟩
  case regs =>
    rw [State.advance_regs, State.setFlags_regs, State.setReg_regs, State.dropTop_regs, State.advance_regs,
      State.push16_regs, regs_set_a_get_a]
  case flags => rw [State.advance_flags, State.setFlags_flags]
  case sp =>
    rw [State.advance_sp, State.setFlags_sp, State.setReg_sp, State.dropTop_sp, State.advance_sp, State.push16_sp,
      BitVec.sub_add_cancel]

/-- Settles O25: SP takes HL, and nothing else is written. -/
theorem loadStackPointerFromHL : Obligations.LoadStackPointerFromHL := fun _ => ⟨rfl, _, rfl, rfl⟩

/-! Control transfer. -/

/-- Settles O26: PC takes the address, or HL. -/
theorem jumpsGoToTheirTarget : Obligations.JumpsGoToTheirTarget := by
  intro s x a16
  rw [← loByte_eq_ofNat]
  exact ⟨⟨rfl, _, rfl, rfl⟩, ⟨rfl, _, rfl, rfl⟩⟩

/-- A return address pushed and a target taken are seen in the two bytes below SP, in SP and in PC (R193, R224). -/
theorem seen_enterAt (s : State) (ret target : Addr) :
    seen (s.enterAt ret target) = { seen s with byte := pushed s ret, sp := s.sp - 2, pc := target } := by
  rw [State.enterAt, seen_setPc, seen_push16]

/-- A return is seen in PC and SP (R195). -/
theorem seen_returnPop (s : State) : seen s.returnPop = { seen s with pc := topWord s, sp := s.sp + 2 } := rfl

theorem exec_call (s : State) (xx : BitVec 2) (a16 : Addr) :
    exec (.call xx a16) s = .next (s.enterAt (s.pc + 3) a16) := rfl

theorem exec_ret (s : State) (x : BitVec 1) : exec (.ret x) s = .next s.returnPop := rfl

/-- Settles O27: PC + 3 is pushed. -/
theorem callPushesReturnAddress : Obligations.CallPushesReturnAddress := by
  intro s xx a16
  rw [← loByte_eq_ofNat]
  exact ⟨rfl, _, exec_call s xx a16, seen_enterAt s _ _⟩

/-- Settles O28: PC takes the word on top of the stack. -/
theorem returnPopsPc : Obligations.ReturnPopsPc := fun s x => ⟨rfl, _, exec_ret s x, seen_returnPop s⟩

/-- Settles O30: the word on top of the stack is the return address as long as its two bytes and SP are as the CALL left
them. -/
theorem callThenReturnComesBack : Obligations.CallThenReturnComesBack := by
  intro s t u v xx x a16 hcall hsp hlow hhigh hret
  rw [exec_call] at hcall
  rw [exec_ret] at hret
  cases hcall
  cases hret
  have htop : u.stackTop = s.pc + 3 := by
    rw [State.stackTop, hlow, hhigh, hsp]
    exact stackTop_push16 s (s.pc + 3)
  refine ⟨htop, ?_⟩
  calc u.returnPop.sp = u.sp + 2 := rfl
    _ = s.sp - 2 + 2 := by rw [hsp]; rfl
    _ = s.sp := BitVec.sub_add_cancel _ _

theorem encode_jumpCond (cond : Cond) (a16 : Addr) :
    encode (Instr.jumpCond cond a16) =
      [BitVec.ofNat 8 (0xC2 + 8 * cond.code), BitVec.ofNat 8 a16.toNat, BitVec.ofNat 8 (a16.toNat / 256)] := by
  rw [← loByte_eq_ofNat]; cases cond <;> rfl

theorem encode_callCond (cond : Cond) (a16 : Addr) :
    encode (Instr.callCond cond a16) =
      [BitVec.ofNat 8 (0xC4 + 8 * cond.code), BitVec.ofNat 8 a16.toNat, BitVec.ofNat 8 (a16.toNat / 256)] := by
  rw [← loByte_eq_ofNat]; cases cond <;> rfl

theorem encode_retCond (cond : Cond) : encode (Instr.retCond cond) = [BitVec.ofNat 8 (0xC0 + 8 * cond.code)] := by
  cases cond <;> rfl

theorem exec_jumpCond (s : State) (cond : Cond) (a16 : Addr) :
    exec (Instr.jumpCond cond a16) s = conditionalJump cond a16 s := by cases cond <;> rfl

theorem exec_callCond (s : State) (cond : Cond) (a16 : Addr) :
    exec (Instr.callCond cond a16) s = conditionalCall cond a16 s := by cases cond <;> rfl

theorem exec_retCond (s : State) (cond : Cond) : exec (Instr.retCond cond) s = conditionalReturn cond s := by
  cases cond <;> rfl

theorem condTrue_iff (cond : Cond) (f : Flags) : condTrue cond f ↔ condHolds cond f = true := by
  cases cond <;> simp [condTrue, condHolds]

/-- What an instruction with two outcomes is observed to do, by its condition. -/
theorem observed_of_condition {i : Instr} {s t u : State} {cond : Cond} {taken other : Observed}
    (h : exec i s = if condHolds cond s.flags then .next t else .next u) (ht : seen t = taken) (hu : seen u = other) :
    ∃ v, exec i s = .next v ∧ (condTrue cond s.flags → seen v = taken) ∧ (¬ condTrue cond s.flags → seen v = other) := by
  rw [condTrue_iff]
  cases hc : condHolds cond s.flags with
  | true => exact ⟨t, by rw [h, hc]; rfl, fun _ => ht, fun hn => absurd rfl hn⟩
  | false => exact ⟨u, by rw [h, hc]; rfl, nofun, fun _ => hu⟩

/-- Settles O29: the taken outcome is that of JMP, CALL and RET, the other one only moves PC past the instruction. -/
theorem conditionalTransfersFollowTheFlag : Obligations.ConditionalTransfersFollowTheFlag := by
  intro s cond a16
  refine ⟨?jump, ?call, ?ret⟩
  case jump =>
    exact ⟨encode_jumpCond cond a16, observed_of_condition (exec_jumpCond s cond a16) rfl (seen_advance s 3)⟩
  case call =>
    exact ⟨encode_callCond cond a16,
      observed_of_condition (exec_callCond s cond a16) (seen_enterAt s _ _) (seen_advance s 3)⟩
  case ret =>
    exact ⟨encode_retCond cond, observed_of_condition (exec_retCond s cond) (seen_returnPop s) (seen_advance s 1)⟩

/-! Ports, interrupt enable, restart, halt. -/

/-- A port read and its value in A are seen in A and in the environment (R220). -/
theorem seen_input (s : State) (port : Byte) :
    seen (((s.portReadDone port).setReg .a (s.portValue port)).advance 2) =
      { seen s with
        reg := setAt s.regs.get .a (s.portValue port)
        pc := s.pc + 2
        env := { s.env with handler := (s.portAnswer port).2, portReads := s.env.portReads + 1 } } := by
  rw [seen_advance, seen_setReg]; rfl

/-- The answer and the handler after it, for each handler (R60, R220). -/
theorem portAnswer_eq (s : State) (port : Byte) :
    s.portAnswer port = s.env.handler.answer s.params.defaultPortRead s.env.portReads port := rfl

/-- Settles O35: A takes what the handler answers, and the handler is what the answer leaves. -/
theorem inputTakesTheHandlersAnswer : Obligations.InputTakesTheHandlersAnswer := by
  intro s d8
  refine ⟨rfl, _, rfl, s.portValue d8, (s.portAnswer d8).2, seen_input s d8, ?_, ?_, ?_⟩
  · intro hh; rw [State.portValue, portAnswer_eq, hh]; exact ⟨rfl, rfl⟩
  · intro w rest hh; rw [State.portValue, portAnswer_eq, hh]; exact ⟨rfl, rfl⟩
  · intro hh; rw [State.portValue, portAnswer_eq, hh]; exact ⟨rfl, rfl⟩

/-- The shipped handler drops a write (R60). -/
theorem portWrite_of_shipped {s : State} (h : s.env.handler = .shipped) (port v : Byte) : s.portWrite port v = s := by
  simp only [State.portWrite, h]

/-- An injected handler takes one event (R221). -/
theorem portWrite_of_injected {s : State} {answers : List Byte} (h : s.env.handler = .injected answers) (port v : Byte) :
    s.portWrite port v =
      s.setEnv { s.env with portWrites := s.env.portWrites ++ [{ port := port, value := v }] } := by
  simp only [State.portWrite, h]

theorem exec_outPort (s : State) (d8 : Byte) :
    exec (.outPort d8) s = .next ((s.portWrite d8 (s.regs.get .a)).advance 2) := rfl

/-- Settles O36: nothing or one event more, by the handler. -/
theorem outputEmitsOneEvent : Obligations.OutputEmitsOneEvent := by
  intro s d8
  refine ⟨rfl, _, exec_outPort s d8, fun hh => ?_, fun answers hh => ?_⟩
  · rw [portWrite_of_shipped hh]; rfl
  · rw [portWrite_of_injected hh]; rfl

/-- Settles O37: IE, or PC and RUN. -/
theorem interruptEnableAndHalt : Obligations.InterruptEnableAndHalt :=
  fun _ => ⟨⟨rfl, _, rfl, rfl⟩, ⟨rfl, _, rfl, rfl⟩, ⟨rfl, _, rfl, rfl⟩⟩

theorem encode_rst (n : Fin 8) : encode (Instr.rst n) = [BitVec.ofNat 8 (0xC7 + 8 * n.val)] := by
  revert n
  decide

theorem exec_rst (s : State) (n : Fin 8) :
    exec (Instr.rst n) s = .next (s.enterAt (s.pc + 1) (BitVec.ofNat 16 (8 * n.val))) := by
  match n with
  | 0 | 1 | 2 | 3 | 4 | 5 | 6 | 7 => rfl

/-- Settles O38: the shared entry, with PC + 1 pushed. -/
theorem restartCallsItsVector : Obligations.RestartCallsItsVector := by
  intro s n
  exact ⟨encode_rst n, _, exec_rst s n, seen_enterAt s _ _⟩

end Sys2Proof.Claims
end
